-- ==== Sys2Proof/Word.lean ====
section
/-! DEFINITION. The word types of the hardware: 8-bit bytes, 16-bit words, and the stack pointer's range. -/

namespace Sys2Proof

/-- An 8-bit value: a register, a memory cell, a port datum, an opcode byte (R10, R40, R60). -/
abbrev Byte := BitVec 8

/-- A 16-bit value: the program counter, a register pair, an address (R11, R19). -/
abbrev Word := BitVec 16

/-- The values the stack pointer may hold: the closed range 0x00000 to 0x10000 (R20). -/
abbrev StackPtr := Fin 0x10001

end Sys2Proof
end

