-- ==== Sys2Proof/Machine/Bits.lean ====
section
/-! DEFINITION. Bit and byte-order helpers: the two halves of a word, the carry probe of R17, parity. -/

namespace Sys2Proof

/-- The high byte `w[15:8]` of a word (R11). -/
def hiByte (w : Word) : Byte := BitVec.ofNat 8 (w.toNat / 256)

/-- The low byte `w[7:0]` of a word (R11). -/
def loByte (w : Word) : Byte := BitVec.ofNat 8 w.toNat

/-- `hi:lo`, the concatenation `hi*256 + lo` (00_scope.md section 6, R11, R43). -/
def joinBytes (hi lo : Byte) : Word := BitVec.ofNat 16 (hi.toNat * 256 + lo.toNat)

/-- `Probe(a, b, i)`, the document's `hasCarryAtBitIndex`: bit `i` is 1 in `a` and 0 in the full sum `a + b`.
It is not the arithmetic carry and is not symmetric in its operands (R17). -/
def probe (a b i : Nat) : Bool := a.testBit i && !(a + b).testBit i

/-- The number of 1 bits of a byte. -/
def onesCount (r : Byte) : Nat := (List.range 8).countP (fun i => r.getLsbD i)

/-- The flag `P`: the number of 1 bits is even, zero counting as even (R16). -/
def evenOnes (r : Byte) : Bool := onesCount r % 2 == 0

end Sys2Proof
end

