-- ==== Sys2Proof/Config.lean ====
section
/-! DEFINITION. What is fixed for one machine: the implementation parameters of R5 with their working values, and
the free values the port handler supplies (R181). -/

namespace Sys2Proof

/-- A name of a port handler: the host attaches a handler object, and the model holds which one it is (R31, R180).
Two different names may behave in any two ways. -/
abbrev HandlerId := Nat

/-- One access to the port bus, with the port address and the byte that crossed it (R181). -/
inductive PortAccess where
  /-- `in(port)` was answered with `value` (R182). -/
  | read (port value : Byte)
  /-- `out(port, value)` was called (R183). -/
  | write (port value : Byte)
  deriving DecidableEq, Repr

/-- The implementation parameters that R5 leaves to the model: arguments of the step, of the host's moves and of the
two ways to run. The other two, `PORT_HANDLER` and `IMAGE_LEN`, change as the machine runs and are fields of State. -/
structure Parameters where
  /-- `QUIT_OPCODE`: the byte that is the instruction `QUIT` (R66, R186). -/
  quitOpcode : Byte
  /-- `CYCLES`: opcode to (cost, cost when a condition is taken) (R246). -/
  cycles : Byte → Nat × Nat
  /-- `INT_COST`: the cost of the interrupt service step (R208). -/
  intCost : Nat
  /-- `IE_RESET`: the value of `IE` after `Reset` (R231). -/
  ieReset : Bool

namespace Config

/-- DESIGN CHOICE (log 1): the working value 0x08 of `QUIT_OPCODE`, which the spec's decision D2 gives. -/
def quitOpcode : Byte := 0x08

/-- PRESUMED (log 2): the working value 11 of `INT_COST`, the Intel 8080's cost of an `RST` (decision D22). -/
def intCost : Nat := 11

/-- DESIGN CHOICE (log 3): the working value 0 of `IE_RESET` (decision D18). -/
def ieReset : Bool := false

/-- A free value (log 4): the byte that handler `h` answers to `in(port)` after the accesses `earlier`, oldest
first. R181: "an oracle that may return any byte and may depend on the whole earlier sequence". -/
opaque portIn (h : HandlerId) (earlier : List PortAccess) (port : Byte) : Byte

end Config

end Sys2Proof
end

