-- ==== Sys2Proof/Machine/State.lean ====
section
/-! DEFINITION. The state of the machine as plain data, why a step can stop, and the state after reset. -/

namespace Sys2Proof.Machine

/-- The two fatal errors of the core, a closed list (R213). A `Step` that meets one records it in the latch `FAULT`
and changes nothing else; that is a next state (R212). While the latch is set no step exists: `step` then answers
this fault. Safe: the spec says the core is stuck until `Reset`. -/
inductive Fault where
  /-- A fetched byte is no instruction; carries the byte (R210). Raised by `execUnrecognized`. -/
  | unrecognizedOpcode (op : Byte)
  /-- `IN` or `OUT` executed with no port handler attached (R211). Raised by `execInp` and `execOut`. -/
  | missingPortHandler
  deriving DecidableEq, Repr

/-- What the model refuses: forms to which the spec gives no meaning (R214). All are safe. -/
inductive Refusal where
  /-- An instruction with no meaning in the model. No arm of `exec` answers it. -/
  | notModelled (mnemonic : String)
  /-- The host's `IntReq(v)` with `v` not an `RST` encoding (R203). Raised by `intReq`. -/
  | notRstVector (v : Byte)
  /-- The host's `Load` of an image longer than the memory (R232). Raised by `load`. -/
  | imageTooLong (length : Nat)
  deriving DecidableEq, Repr

/-- The memory: (address, byte) pairs, addresses strictly rising, no pair with the byte an unlisted address reads
as. Its operations and its canonical form are in Machine/Memory.lean. -/
abbrev Memory := List Host.Cell

/-- Everything the spec gives the core (10_state.md section 7), and one field of the model's own, `portLog`. -/
structure State where
  /-- The accumulator `A` (R10). -/
  a : Byte
  /-- The flags byte `F` (R14). -/
  f : Byte
  /-- Register `B` (R10). -/
  b : Byte
  /-- Register `C` (R10). -/
  c : Byte
  /-- Register `D` (R10). -/
  d : Byte
  /-- Register `E` (R10). -/
  e : Byte
  /-- Register `H` (R10). -/
  h : Byte
  /-- Register `L` (R10). -/
  l : Byte
  /-- The program counter `PC` (R19). -/
  pc : Word
  /-- The stack pointer `SP`, 0 to 0x10000 (R20). -/
  sp : StackPtr
  /-- The memory `MEM` (R22, R40). -/
  mem : Memory
  /-- The cycle counter `CYC`, unbounded (R23). -/
  cyc : Nat
  /-- The interrupt latch `LATCH`: none, or the vector address to go to (R24). -/
  latch : Option Word
  /-- `HALTED` (R25). -/
  halted : Bool
  /-- Interrupts enabled, `IE` (R26). -/
  ie : Bool
  /-- The run-stopped flag `STOPPED` (R27). -/
  stopped : Bool
  /-- The fault latch `FAULT` (R29). -/
  fault : Option Fault
  /-- The attached port handler `PORT_HANDLER` (R31, R180). -/
  portHandler : Option HandlerId
  /-- The length of the loaded image, `IMAGE_LEN` (R31, R236). -/
  imageLen : Nat
  /-- The model's own field: every port access since reset, oldest first. It is the observable port traffic of
  R181, and what a handler's next answer may depend on. -/
  portLog : List PortAccess
  deriving DecidableEq, Repr

/-- The state after `Reset`, for either value of the parameter `IE_RESET` (R230, R231). The run-control fields,
`portHandler` and `imageLen`: DESIGN CHOICE (the spec's D18, log 20). `portLog`: DESIGN CHOICE (log 23). -/
def State.resetWith (ieReset : Bool) : State where
  a := 0x00
  f := 0x02
  b := 0x00
  c := 0x00
  d := 0x00
  e := 0x00
  h := 0x00
  l := 0x00
  pc := 0x0000
  sp := 0x10000
  mem := []
  cyc := 0
  latch := none
  halted := false
  ie := ieReset
  stopped := false
  fault := none
  portHandler := none
  imageLen := 0
  portLog := []

/-- The state after `Reset` (R230). -/
def State.reset : State := State.resetWith Config.ieReset

/-- What a step or a host move answers. -/
abbrev Out := Host.Outcome State Fault Refusal

end Sys2Proof.Machine
end

