-- ==== Sys2Proof/Machine/Memory.lean ====
section
/-! DEFINITION. Reading and writing one cell of the memory, and the canonical form of a memory. -/

namespace Sys2Proof.Machine

/-- What a cell that nothing has written holds: 0x00, the memory being zero-initialized (R40, R230). -/
def Memory.unlisted : Byte := 0x00

/-- The byte at an address (R40). -/
def Memory.read : Memory → Nat → Byte
  | [], _ => Memory.unlisted
  | (k, v) :: rest, addr => if k = addr then v else Memory.read rest addr

/-- Takes an address out of a memory. -/
def Memory.erase : Memory → Nat → Memory
  | [], _ => []
  | (k, v) :: rest, addr => if k = addr then erase rest addr else (k, v) :: erase rest addr

/-- Puts a byte in its place among rising addresses. -/
def Memory.insert : Memory → Nat → Byte → Memory
  | [], addr, v => [(addr, v)]
  | (k, w) :: rest, addr, v =>
    if addr < k then (addr, v) :: (k, w) :: rest else (k, w) :: insert rest addr v

/-- Writes one cell and keeps the canonical form: a byte that an unlisted cell reads as is not listed (R40). -/
def Memory.write (m : Memory) (addr : Nat) (v : Byte) : Memory :=
  if v = Memory.unlisted then m.erase addr else (m.erase addr).insert addr v

/-- The canonical form of the cells at `low` and above: addresses strictly rising and below 65536, no cell that
reads as an unlisted one would. -/
def Memory.wfFrom : Nat → Memory → Bool
  | _, [] => true
  | low, (k, v) :: rest => decide (low ≤ k) && decide (k < 0x10000) && v != Memory.unlisted && wfFrom (k + 1) rest

/-- The canonical form of a memory. -/
def Memory.wf (m : Memory) : Bool := Memory.wfFrom 0 m

end Sys2Proof.Machine
end

