-- ==== Sys2Proof/Syntax.lean ====
section
/-! DEFINITION. The syntax: the operand names of the hardware and `Instr`, one constructor per row of the opcode
table. -/

namespace Sys2Proof

/-- The seven general registers (R10). -/
inductive Reg where
  | b | c | d | e | h | l | a
  deriving DecidableEq, Repr

/-- What a 3-bit register code names: a register, or `M`, the byte at address HL (R12). -/
inductive Operand where
  | reg (r : Reg)
  | m
  deriving DecidableEq, Repr

/-- The general-purpose register pairs (R11). -/
inductive Pair where
  | bc | de | hl
  deriving DecidableEq, Repr

/-- What a pair code names in `LXI`, `INX`, `DCX`, `DAD`: code 3 is the stack pointer (R13). -/
inductive PairSp where
  | pair (p : Pair)
  | sp
  deriving DecidableEq, Repr

/-- What a pair code names in `PUSH`, `POP`: code 3 is the accumulator and the flags (R13). -/
inductive PairPsw where
  | pair (p : Pair)
  | psw
  deriving DecidableEq, Repr

/-- The pairs that `LDAX` and `STAX` address through (R13, R136, R137). -/
inductive AccPair where
  | bc | de
  deriving DecidableEq, Repr

/-- The eight conditions, in the order of their codes 0 to 7 (R67, R160). -/
inductive Cond where
  | nz | z | nc | c | po | pe | p | m
  deriving DecidableEq, Repr

/-- The eight accumulator operations, in the order of their codes 0 to 7 (R62). -/
inductive AluOp where
  | add | adc | sub | sbb | ana | xra | ora | cmp
  deriving DecidableEq, Repr

/-- The instructions of R66, each named as the opcode table names it. `d8`, `d16` and `a16` are the operand bytes
(R63). `unrecognized op` stands for the rows of the bytes that are no instruction: fetching one raises
`UnrecognizedOpcode(op)` (R68, R210). The constructors with operand bytes stand first, then the others, each group in
the order of the opcode bytes. -/
inductive Instr where
  | unrecognized (op : Byte)
  | lxi_B (d16 : Word)
  | mvi_B (d8 : Byte)
  | mvi_C (d8 : Byte)
  | lxi_D (d16 : Word)
  | mvi_D (d8 : Byte)
  | mvi_E (d8 : Byte)
  | lxi_H (d16 : Word)
  | shld (a16 : Word)
  | mvi_H (d8 : Byte)
  | lhld (a16 : Word)
  | mvi_L (d8 : Byte)
  | lxi_SP (d16 : Word)
  | sta (a16 : Word)
  | mvi_M (d8 : Byte)
  | lda (a16 : Word)
  | mvi_A (d8 : Byte)
  | jnz (a16 : Word)
  | jmp (a16 : Word)
  | cnz (a16 : Word)
  | adi (d8 : Byte)
  | jz (a16 : Word)
  | cz (a16 : Word)
  | call (a16 : Word)
  | aci (d8 : Byte)
  | jnc (a16 : Word)
  | out (d8 : Byte)
  | cnc (a16 : Word)
  | sui (d8 : Byte)
  | jc (a16 : Word)
  | inp (d8 : Byte)
  | cc (a16 : Word)
  | sbi (d8 : Byte)
  | jpo (a16 : Word)
  | cpo (a16 : Word)
  | ani (d8 : Byte)
  | jpe (a16 : Word)
  | cpe (a16 : Word)
  | xri (d8 : Byte)
  | jp (a16 : Word)
  | cp (a16 : Word)
  | ori (d8 : Byte)
  | jm (a16 : Word)
  | cm (a16 : Word)
  | cpi (d8 : Byte)
  | nop
  | stax_B
  | inx_B
  | inr_B
  | dcr_B
  | rlc
  | quit
  | dad_B
  | ldax_B
  | dcx_B
  | inr_C
  | dcr_C
  | rrc
  | stax_D
  | inx_D
  | inr_D
  | dcr_D
  | ral
  | dad_D
  | ldax_D
  | dcx_D
  | inr_E
  | dcr_E
  | rar
  | inx_H
  | inr_H
  | dcr_H
  | daa
  | dad_H
  | dcx_H
  | inr_L
  | dcr_L
  | cma
  | inx_SP
  | inr_M
  | dcr_M
  | stc
  | dad_SP
  | dcx_SP
  | inr_A
  | dcr_A
  | cmc
  | mov_B_B
  | mov_B_C
  | mov_B_D
  | mov_B_E
  | mov_B_H
  | mov_B_L
  | mov_B_M
  | mov_B_A
  | mov_C_B
  | mov_C_C
  | mov_C_D
  | mov_C_E
  | mov_C_H
  | mov_C_L
  | mov_C_M
  | mov_C_A
  | mov_D_B
  | mov_D_C
  | mov_D_D
  | mov_D_E
  | mov_D_H
  | mov_D_L
  | mov_D_M
  | mov_D_A
  | mov_E_B
  | mov_E_C
  | mov_E_D
  | mov_E_E
  | mov_E_H
  | mov_E_L
  | mov_E_M
  | mov_E_A
  | mov_H_B
  | mov_H_C
  | mov_H_D
  | mov_H_E
  | mov_H_H
  | mov_H_L
  | mov_H_M
  | mov_H_A
  | mov_L_B
  | mov_L_C
  | mov_L_D
  | mov_L_E
  | mov_L_H
  | mov_L_L
  | mov_L_M
  | mov_L_A
  | mov_M_B
  | mov_M_C
  | mov_M_D
  | mov_M_E
  | mov_M_H
  | mov_M_L
  | hlt
  | mov_M_A
  | mov_A_B
  | mov_A_C
  | mov_A_D
  | mov_A_E
  | mov_A_H
  | mov_A_L
  | mov_A_M
  | mov_A_A
  | add_B
  | add_C
  | add_D
  | add_E
  | add_H
  | add_L
  | add_M
  | add_A
  | adc_B
  | adc_C
  | adc_D
  | adc_E
  | adc_H
  | adc_L
  | adc_M
  | adc_A
  | sub_B
  | sub_C
  | sub_D
  | sub_E
  | sub_H
  | sub_L
  | sub_M
  | sub_A
  | sbb_B
  | sbb_C
  | sbb_D
  | sbb_E
  | sbb_H
  | sbb_L
  | sbb_M
  | sbb_A
  | ana_B
  | ana_C
  | ana_D
  | ana_E
  | ana_H
  | ana_L
  | ana_M
  | ana_A
  | xra_B
  | xra_C
  | xra_D
  | xra_E
  | xra_H
  | xra_L
  | xra_M
  | xra_A
  | ora_B
  | ora_C
  | ora_D
  | ora_E
  | ora_H
  | ora_L
  | ora_M
  | ora_A
  | cmp_B
  | cmp_C
  | cmp_D
  | cmp_E
  | cmp_H
  | cmp_L
  | cmp_M
  | cmp_A
  | rnz
  | pop_B
  | push_B
  | rst_0
  | rz
  | ret
  | rst_1
  | rnc
  | pop_D
  | push_D
  | rst_2
  | rc
  | rst_3
  | rpo
  | pop_H
  | xthl
  | push_H
  | rst_4
  | rpe
  | pchl
  | xchg
  | rst_5
  | rp
  | pop_PSW
  | di
  | push_PSW
  | rst_6
  | rm
  | sphl
  | ei
  | rst_7
  deriving DecidableEq, Repr

end Sys2Proof
end

