-- ==== Sys2Proof/Machine/Ops.lean ====
section
/-! DEFINITION. The shared operations over registers, memory, the stack, the program counter, the interrupt latch,
the fault latch and the port bus. -/

namespace Sys2Proof.Machine

/-! ### Registers and pairs -/

/-- Reads a register (R10). -/
def State.reg (s : State) : Reg → Byte
  | .b => s.b
  | .c => s.c
  | .d => s.d
  | .e => s.e
  | .h => s.h
  | .l => s.l
  | .a => s.a

/-- Writes a register (R10). -/
def State.setReg (s : State) (r : Reg) (v : Byte) : State :=
  match r with
  | .b => { s with b := v }
  | .c => { s with c := v }
  | .d => { s with d := v }
  | .e => { s with e := v }
  | .h => { s with h := v }
  | .l => { s with l := v }
  | .a => { s with a := v }

/-- Reads a register pair; the first-named register is the high byte (R11). DESIGN CHOICE (the spec's
D6, log 10). -/
def State.pair (s : State) : Pair → Word
  | .bc => joinBytes s.b s.c
  | .de => joinBytes s.d s.e
  | .hl => joinBytes s.h s.l

/-- Writes a register pair (R11). -/
def State.setPair (s : State) (p : Pair) (v : Word) : State :=
  match p with
  | .bc => { s with b := hiByte v, c := loByte v }
  | .de => { s with d := hiByte v, e := loByte v }
  | .hl => { s with h := hiByte v, l := loByte v }

/-! ### Memory -/

/-- `MemRead(addr, 1)` (R40). -/
def State.memRead (s : State) (addr : Word) : Byte := Memory.read s.mem addr.toNat

/-- `MemWrite(addr, 1, v)` (R40). -/
def State.memWrite (s : State) (addr : Word) (v : Byte) : State :=
  { s with mem := Memory.write s.mem addr.toNat v }

/-- `MemRead(addr, 2)`: the low byte at the lower address, the next address mod 65536 (R43, R44). -/
def State.memRead16 (s : State) (addr : Word) : Word :=
  joinBytes (s.memRead (addr + 1)) (s.memRead addr)

/-- `MemWrite(addr, 2, v)`: the low byte first (R43, R45). -/
def State.memWrite16 (s : State) (addr : Word) (v : Word) : State :=
  (s.memWrite addr (loByte v)).memWrite (addr + 1) (hiByte v)

/-! ### The program counter -/

/-- The end of an instruction that does not set `PC` itself: `PC <- (PC + length) mod 65536` (R19, R65). -/
def State.advance (s : State) (length : Nat) : State :=
  { s with pc := s.pc + BitVec.ofNat 16 length }

/-! ### The stack -/

/-- `Addr(sp)`, the address a stack-pointer value denotes (R20). -/
def spAddr (sp : StackPtr) : Word := BitVec.ofNat 16 sp.val

/-- `SpAdd(sp, k)`: below 0 add 0x10000, above 0x10000 subtract 0x10000, 0x10000 itself is kept (R21).
DESIGN CHOICE (the spec's D4, log 11). -/
def spAdd (sp : StackPtr) (k : Int) : StackPtr :=
  let v : Int := sp.val + k
  Fin.ofNat 0x10001 (if v < 0 then v + 0x10000 else if v > 0x10000 then v - 0x10000 else v).toNat

/-- A 16-bit value as a stack-pointer value (R135, R157). -/
def spOfWord (w : Word) : StackPtr := Fin.ofNat 0x10001 w.toNat

/-- `Push16(v)`: high byte at SP-1, low byte at SP-2, then SP goes down by 2 (R150). -/
def State.push16 (s : State) (v : Word) : State :=
  let s1 := s.memWrite (spAddr (spAdd s.sp (-1))) (hiByte v)
  let s2 := s1.memWrite (spAddr (spAdd s.sp (-2))) (loByte v)
  { s2 with sp := spAdd s.sp (-2) }

/-- The two bytes at the top of the stack: low byte at SP, high byte at SP+1 (R151, R156). -/
def State.stackTop (s : State) : Word :=
  joinBytes (s.memRead (spAddr (spAdd s.sp 1))) (s.memRead (spAddr s.sp))

/-- The part of `Pop16()` that changes the state: SP goes up by 2 (R151). The value popped is `stackTop`. -/
def State.dropTop (s : State) : State := { s with sp := spAdd s.sp 2 }

/-- Pushes the return address and goes to the target, as `CALL`, taken `Ccc` and `RST` do (R163, R164, R167). -/
def State.call (s : State) (returnTo target : Word) : State :=
  { s.push16 returnTo with pc := target }

/-! ### Faults -/

/-- `raise X`: sets the fault latch and changes nothing else (R212). DESIGN CHOICE (the spec's D19, log 6). -/
def State.raise (s : State) (f : Fault) : State := { s with fault := some f }

/-! ### Interrupts: taking one, in two phases, and returning -/

/-- The byte is the encoding of an `RST n` (R203). -/
def isRstVector (v : Byte) : Bool := v &&& 0xC7 == 0xC7

/-- The address a vector byte stands for, `v and 0x38` (R203). DESIGN CHOICE (the spec's D16, log 16). -/
def vectorTarget (v : Byte) : Word := (v &&& 0x38).setWidth 16

/-- Acceptance, the first phase: push PC, latch the target, disable interrupts, leave the halt (R205).
DESIGN CHOICE (the spec's D15, log 16). -/
def State.acceptInterrupt (s : State) (target : Word) : State :=
  { s.push16 s.pc with latch := some target, ie := false, halted := false }

/-- Service, the second phase: go to the latched target at a fixed cost, fetching nothing (R208). -/
def State.serviceInterrupt (s : State) (cost : Nat) (target : Word) : State :=
  { s with pc := target, latch := none, cyc := s.cyc + cost }

/-- The return, of a subroutine and of an interrupt alike: `PC <- Pop16()` (R165, R209). -/
def State.ret (s : State) : State := { s.dropTop with pc := s.stackTop }

/-! ### The port bus -/

/-- The byte the attached handler `h` answers to `in(port)` now: a free value (R181, log 4). -/
def State.portAnswer (s : State) (h : HandlerId) (port : Byte) : Byte := Config.portIn h s.portLog port

/-- Records one port access (R181). -/
def State.logPort (s : State) (x : PortAccess) : State := { s with portLog := s.portLog ++ [x] }

end Sys2Proof.Machine
end

