-- ==== Sys2Proof/Machine/Flags.lean ====
section
/-! DEFINITION. The flags byte, and every computation of a result with its flags. Each is a function of bytes; the
instructions' meanings apply them to the state. -/

namespace Sys2Proof.Machine

/-- The five flags (R14). -/
inductive Flag where
  | cy | p | ac | z | s
  deriving DecidableEq, Repr

/-- The bit of `F` that holds a flag (R14). -/
def Flag.bit : Flag → Nat
  | .cy => 0
  | .p => 2
  | .ac => 4
  | .z => 6
  | .s => 7

/-- Reads a flag of a flags byte (R14). -/
def getFlag (fl : Flag) (f : Byte) : Bool := f.getLsbD fl.bit

/-- Writes one flag of a flags byte; every other bit stays (R15). -/
def setFlag (fl : Flag) (v : Bool) (f : Byte) : Byte :=
  if v then f ||| BitVec.twoPow 8 fl.bit else f &&& ~~~(BitVec.twoPow 8 fl.bit)

/-- Reads a flag of the machine (R14). -/
def State.flag (s : State) (fl : Flag) : Bool := getFlag fl s.f

/-- What a write of the whole flags byte stores: bit 1 forced to 1, bits 3 and 5 to 0 (R15). -/
def wholeFlags (v : Byte) : Byte := (v &&& 0xD5) ||| 0x02

/-- `ZSP(r)`: zero, sign and parity from an 8-bit result (R16). -/
def setZSP (r f : Byte) : Byte :=
  setFlag .p (evenOnes r) (setFlag .s r.msb (setFlag .z (r == 0) f))

/-- The carries of an addition of `t` to `a`: `CY` by the probe at 7, `AC` by the probe at 3 (R80, R81). -/
def setCarries (a t : Nat) (f : Byte) : Byte :=
  setFlag .ac (probe a t 3) (setFlag .cy (probe a t 7) f)

/-- A result byte and the flags byte after the computation. -/
structure AluResult where
  value : Byte
  flags : Byte
  deriving DecidableEq, Repr

/-- `Add8(a, b, cin)`: the incoming carry is added to the second operand first (R80).
DESIGN CHOICE (the spec's D7 and D8, log 12). -/
def add8 (a b : Byte) (cin : Bool) (f : Byte) : AluResult :=
  let t := b.toNat + cin.toNat
  let r := BitVec.ofNat 8 (a.toNat + t)
  ⟨r, setZSP r (setCarries a.toNat t f)⟩

/-- `Sub8(a, b, cin)`: the addition of the two's complement of `b + cin`, its probes stored as they are (R81).
DESIGN CHOICE (the spec's D9, log 13). -/
def sub8 (a b : Byte) (cin : Bool) (f : Byte) : AluResult :=
  let t := (b.toNat + cin.toNat) % 256
  let n := (256 - t) % 256
  let r := BitVec.ofNat 8 (a.toNat + n)
  ⟨r, setZSP r (setCarries a.toNat n f)⟩

/-- The flags of `Logic8`: `CY` and `AC` cleared, zero, sign and parity from the result (R110).
DESIGN CHOICE (the spec's D11, log 14). -/
def logicFlags (r f : Byte) : Byte := setZSP r (setFlag .ac false (setFlag .cy false f))

/-- AND (R110). -/
def and8 (a b f : Byte) : AluResult := ⟨a &&& b, logicFlags (a &&& b) f⟩

/-- XOR (R110). -/
def xor8 (a b f : Byte) : AluResult := ⟨a ^^^ b, logicFlags (a ^^^ b) f⟩

/-- OR (R110). -/
def or8 (a b f : Byte) : AluResult := ⟨a ||| b, logicFlags (a ||| b) f⟩

/-- The increment of `INR`: every flag but `CY` (R97). -/
def inc8 (x f : Byte) : AluResult :=
  let r := BitVec.ofNat 8 (x.toNat + 1)
  ⟨r, setZSP r (setFlag .ac (probe x.toNat 1 3) f)⟩

/-- The decrement of `DCR`, the addition of 0xFF: every flag but `CY` (R99).
DESIGN CHOICE (the spec's D10, log 13). -/
def dec8 (x f : Byte) : AluResult :=
  let r := BitVec.ofNat 8 (x.toNat + 0xFF)
  ⟨r, setZSP r (setFlag .ac (probe x.toNat 0xFF 3) f)⟩

/-- The sum of `DAD`; `b` may be the stack pointer's 0x10000 (R103). -/
def dadSum (a : Word) (b : Nat) : Word := BitVec.ofNat 16 (a.toNat + b)

/-- The flags of `DAD`: `CY` by the probe at 15, no other (R103). -/
def dadFlags (a : Word) (b : Nat) (f : Byte) : Byte := setFlag .cy (probe a.toNat b 15) f

/-- `RLC`: bit 7 goes to bit 0 and to `CY` (R120). In all four rotates the other flags stay: DESIGN CHOICE (the spec's
D13, log 14). -/
def rlc8 (a f : Byte) : AluResult :=
  ⟨BitVec.ofNat 8 (a.toNat * 2 % 256 + a.msb.toNat), setFlag .cy a.msb f⟩

/-- `RRC`: bit 0 goes to bit 7 and to `CY` (R121). -/
def rrc8 (a f : Byte) : AluResult :=
  ⟨BitVec.ofNat 8 (a.toNat / 2 + (a.getLsbD 0).toNat * 128), setFlag .cy (a.getLsbD 0) f⟩

/-- `RAL`: the old `CY` goes to bit 0, bit 7 to `CY` (R122). -/
def ral8 (a f : Byte) : AluResult :=
  ⟨BitVec.ofNat 8 (a.toNat * 2 % 256 + (getFlag .cy f).toNat), setFlag .cy a.msb f⟩

/-- `RAR`: the old `CY` goes to bit 7, bit 0 to `CY` (R123). -/
def rar8 (a f : Byte) : AluResult :=
  ⟨BitVec.ofNat 8 (a.toNat / 2 + (getFlag .cy f).toNat * 128), setFlag .cy (a.getLsbD 0) f⟩

/-- `DAA` takes its low branch (R124). -/
def daaLowTaken (a f : Byte) : Bool := decide (a.toNat % 16 > 9) || getFlag .ac f

/-- The accumulator of `DAA` after its low branch; a carry out of bit 7 is dropped (R124). -/
def daaLowValue (a f : Byte) : Nat := if daaLowTaken a f then (a.toNat + 6) % 256 else a.toNat

/-- `DAA` takes its high branch, seen after the low one (R124). -/
def daaHighTaken (a f : Byte) : Bool := decide (daaLowValue a f / 16 > 9) || getFlag .cy f

/-- `DAA`: `AC` is written only by the low branch, `CY` only by the high one, no other flag (R124).
DESIGN CHOICE (the spec's D12, log 14). -/
def daa8 (a f : Byte) : AluResult :=
  let low := daaLowValue a f
  let high := low / 16
  let f1 := if daaLowTaken a f then setFlag .ac (probe a.toNat 6 3) f else f
  let f2 := if daaHighTaken a f then setFlag .cy (probe high 6 3) f1 else f1
  let high' := if daaHighTaken a f then (high + 6) % 16 else high
  ⟨BitVec.ofNat 8 (high' * 16 + low % 16), f2⟩

/-- `cond(ccc)`: the condition holds of the flags (R160). -/
def condHolds (cc : Cond) (f : Byte) : Bool :=
  match cc with
  | .nz => !getFlag .z f
  | .z => getFlag .z f
  | .nc => !getFlag .cy f
  | .c => getFlag .cy f
  | .po => !getFlag .p f
  | .pe => getFlag .p f
  | .p => !getFlag .s f
  | .m => getFlag .s f

end Sys2Proof.Machine
end

