-- ==== Sys2Proof/Machine/Operands.lean ====
section
/-! DEFINITION. The operand forms: the 3-bit code's operand, the two readings of the pair code, and the condition
codes. The immediate operands are read by Machine/Fetch.lean. -/

namespace Sys2Proof.Machine

/-- The operand of a 3-bit register code (R12). -/
def operandOfCode : Fin 8 → Operand
  | 0 => .reg .b
  | 1 => .reg .c
  | 2 => .reg .d
  | 3 => .reg .e
  | 4 => .reg .h
  | 5 => .reg .l
  | 6 => .m
  | 7 => .reg .a

/-- The condition of a 3-bit condition code (R67). PRESUMED (the spec's D29, log 9). -/
def condOfCode : Fin 8 → Cond
  | 0 => .nz
  | 1 => .z
  | 2 => .nc
  | 3 => .c
  | 4 => .po
  | 5 => .pe
  | 6 => .p
  | 7 => .m

/-- The address that `M` stands for, `H:L` (R12). -/
def State.hl (s : State) : Word := s.pair .hl

/-- `r[c]`: a register, or the byte at HL (R12). -/
def State.operand (s : State) : Operand → Byte
  | .reg r => s.reg r
  | .m => s.memRead s.hl

/-- `r[c] <- v` (R12). -/
def State.setOperand (s : State) (o : Operand) (v : Byte) : State :=
  match o with
  | .reg r => s.setReg r v
  | .m => s.memWrite s.hl v

/-- The value of `rp[p]` where code 3 is the stack pointer, 0 to 0x10000 (R13, R103). DESIGN CHOICE (the spec's D5,
log 10). -/
def State.pairSp (s : State) : PairSp → Nat
  | .pair p => (s.pair p).toNat
  | .sp => s.sp.val

/-- `rp[p] <- v` where code 3 is the stack pointer (R13, R135). -/
def State.setPairSp (s : State) (p : PairSp) (v : Word) : State :=
  match p with
  | .pair p => s.setPair p v
  | .sp => { s with sp := spOfWord v }

/-- `rp[p]` where code 3 is the accumulator and the flags, the accumulator the high byte (R11, R13). -/
def State.pairPsw (s : State) : PairPsw → Word
  | .pair p => s.pair p
  | .psw => joinBytes s.a s.f

/-- `rp[p] <- v` where code 3 is the accumulator and the flags; the flags byte is masked (R13, R15, R155). -/
def State.setPairPsw (s : State) (p : PairPsw) (v : Word) : State :=
  match p with
  | .pair p => s.setPair p v
  | .psw => { s with a := hiByte v, f := wholeFlags (loByte v) }

/-- The address in the pair of `LDAX` and `STAX` (R136, R137). -/
def State.accPair (s : State) : AccPair → Word
  | .bc => s.pair .bc
  | .de => s.pair .de

end Sys2Proof.Machine
end

