-- ==== Sys2Proof/Machine/Cycles.lean ====
section
/-! DEFINITION. The cycle cost of a step (R246). It is informational: no other state depends on it. -/

namespace Sys2Proof.Machine

/-- PRESUMED (log 5): the working value of `CYCLES`, the Intel 8080's T-states as R246 lists them, by rows of 16
opcode bytes; for `Rcc` and `Ccc` the cost when the condition does not hold; 0 where there is no instruction. -/
def cycleRows : List (List Nat) :=
  [[4, 10, 7, 5, 5, 5, 7, 4, 0, 10, 7, 5, 5, 5, 7, 4],
   [0, 10, 7, 5, 5, 5, 7, 4, 0, 10, 7, 5, 5, 5, 7, 4],
   [0, 10, 16, 5, 5, 5, 7, 4, 0, 10, 16, 5, 5, 5, 7, 4],
   [0, 10, 13, 5, 10, 10, 10, 4, 0, 10, 13, 5, 5, 5, 7, 4],
   [5, 5, 5, 5, 5, 5, 7, 5, 5, 5, 5, 5, 5, 5, 7, 5],
   [5, 5, 5, 5, 5, 5, 7, 5, 5, 5, 5, 5, 5, 5, 7, 5],
   [5, 5, 5, 5, 5, 5, 7, 5, 5, 5, 5, 5, 5, 5, 7, 5],
   [7, 7, 7, 7, 7, 7, 7, 7, 5, 5, 5, 5, 5, 5, 7, 5],
   [4, 4, 4, 4, 4, 4, 7, 4, 4, 4, 4, 4, 4, 4, 7, 4],
   [4, 4, 4, 4, 4, 4, 7, 4, 4, 4, 4, 4, 4, 4, 7, 4],
   [4, 4, 4, 4, 4, 4, 7, 4, 4, 4, 4, 4, 4, 4, 7, 4],
   [4, 4, 4, 4, 4, 4, 7, 4, 4, 4, 4, 4, 4, 4, 7, 4],
   [5, 10, 10, 10, 11, 11, 7, 11, 5, 10, 10, 0, 11, 17, 7, 11],
   [5, 10, 10, 10, 11, 11, 7, 11, 5, 0, 10, 10, 11, 0, 7, 11],
   [5, 10, 10, 18, 11, 11, 7, 11, 5, 5, 10, 4, 11, 0, 7, 11],
   [5, 10, 10, 4, 11, 11, 7, 11, 5, 5, 10, 4, 11, 0, 7, 11]]

/-- The cost of an opcode when its condition holds, for `Rcc` 11 and for `Ccc` 17; otherwise its one cost (R246). -/
def takenCycles (op : Byte) (notTaken : Nat) : Nat :=
  if op &&& 0xC7 = 0xC0 then 11 else if op &&& 0xC7 = 0xC4 then 17 else notTaken

/-- The working value of `CYCLES`: opcode to (cost, cost when a condition is taken) (R5, R246). -/
def workingCycles (op : Byte) : Nat × Nat :=
  let n := ((cycleRows[op.toNat / 16]?).bind (fun row => row[op.toNat % 16]?)).getD 0
  (n, takenCycles op n)

/-- The working values of the parameters (R5, logs 1, 2, 3, 5). -/
def workingParameters : Parameters where
  quitOpcode := Config.quitOpcode
  cycles := workingCycles
  intCost := Config.intCost
  ieReset := Config.ieReset

/-- The condition of a conditional instruction `11ccc000`, `11ccc010` or `11ccc100`, by its opcode byte (R66). -/
def condOfOpcode (op : Byte) : Option Cond :=
  if op &&& 0xC7 = 0xC0 ∨ op &&& 0xC7 = 0xC2 ∨ op &&& 0xC7 = 0xC4 then
    some (condOfCode (Fin.ofNat 8 (op.toNat / 8)))
  else none

/-- The cost of the instruction with opcode byte `op` executed in state `s` (R246). -/
def cycleCost (p : Parameters) (op : Byte) (s : State) : Nat :=
  match condOfOpcode op with
  | none => (p.cycles op).1
  | some cc => if condHolds cc s.f then (p.cycles op).2 else (p.cycles op).1

/-- Adds the cost of an instruction to `CYC` after it executed; a step that raised a fault adds 0 (R212, R246).
DESIGN CHOICE (the spec's D26, log 17). -/
def charge (cost : Nat) (t : State) : State :=
  match t.fault with
  | none => { t with cyc := t.cyc + cost }
  | some _ => t

end Sys2Proof.Machine
end

