-- ==== Sys2Proof/Machine/Arith.lean ====
section
/-! DEFINITION. The meanings of the arithmetic instructions: `ADD ADC SUB SBB CMP` with their immediate
forms, `INR`, `DCR`, `INX`, `DCX`, `DAD` (40_arithmetic.md). None writes memory but `INR M` and `DCR M`; none raises a fault. -/

namespace Sys2Proof.Machine

/-- Stores a result in `A` and its flags in `F`. -/
def State.setAlu (s : State) (r : AluResult) : State := { s with a := r.value, f := r.flags }

/-- `A <- Add8(A, b, 0)` (R80). -/
def State.addToA (s : State) (b : Byte) : State := s.setAlu (add8 s.a b false s.f)

/-- `A <- Add8(A, b, CY)` (R80, R85). -/
def State.adcToA (s : State) (b : Byte) : State := s.setAlu (add8 s.a b (s.flag .cy) s.f)

/-- `A <- Sub8(A, b, 0)` (R81). -/
def State.subFromA (s : State) (b : Byte) : State := s.setAlu (sub8 s.a b false s.f)

/-- `A <- Sub8(A, b, CY)` (R81, R91). -/
def State.sbbFromA (s : State) (b : Byte) : State := s.setAlu (sub8 s.a b (s.flag .cy) s.f)

/-- `discard Sub8(A, b, 0)`: only the flags are kept (R94). -/
def State.cmpWithA (s : State) (b : Byte) : State := { s with f := (sub8 s.a b false s.f).flags }

/-- The increment of an operand (R97, R98). -/
def State.incOperand (s : State) (o : Operand) : State :=
  let r := inc8 (s.operand o) s.f
  { s.setOperand o r.value with f := r.flags }

/-- The decrement of an operand (R99, R100). -/
def State.decOperand (s : State) (o : Operand) : State :=
  let r := dec8 (s.operand o) s.f
  { s.setOperand o r.value with f := r.flags }

/-- Adds 1 to a pair mod 65536, or `SpAdd(SP, +1)` (R101). -/
def State.incPair (s : State) (p : PairSp) : State :=
  match p with
  | .pair p => s.setPair p (s.pair p + 1)
  | .sp => { s with sp := spAdd s.sp 1 }

/-- Subtracts 1 from a pair mod 65536, or `SpAdd(SP, -1)` (R102). -/
def State.decPair (s : State) (p : PairSp) : State :=
  match p with
  | .pair p => s.setPair p (s.pair p - 1)
  | .sp => { s with sp := spAdd s.sp (-1) }

/-- `DAD`: HL plus a pair or `SP` (R103). -/
def State.dad (s : State) (p : PairSp) : State :=
  let b := s.pairSp p
  { s.setPair .hl (dadSum s.hl b) with f := dadFlags s.hl b s.f }

/-! ### `ADD` and `ADI` -/

/-- `ADD B` (R82). -/
def execAdd_B (s : State) : Out := .next ((s.addToA (s.operand (.reg .b))).advance 1)

/-- `ADD C` (R82). -/
def execAdd_C (s : State) : Out := .next ((s.addToA (s.operand (.reg .c))).advance 1)

/-- `ADD D` (R82). -/
def execAdd_D (s : State) : Out := .next ((s.addToA (s.operand (.reg .d))).advance 1)

/-- `ADD E` (R82). -/
def execAdd_E (s : State) : Out := .next ((s.addToA (s.operand (.reg .e))).advance 1)

/-- `ADD H` (R82). -/
def execAdd_H (s : State) : Out := .next ((s.addToA (s.operand (.reg .h))).advance 1)

/-- `ADD L` (R82). -/
def execAdd_L (s : State) : Out := .next ((s.addToA (s.operand (.reg .l))).advance 1)

/-- `ADD M` (R83). -/
def execAdd_M (s : State) : Out := .next ((s.addToA (s.operand .m)).advance 1)

/-- `ADD A` (R82). -/
def execAdd_A (s : State) : Out := .next ((s.addToA (s.operand (.reg .a))).advance 1)

/-- `ADI d8` (R84). -/
def execAdi (d8 : Byte) (s : State) : Out := .next ((s.addToA d8).advance 2)

/-! ### `ADC` and `ACI` -/

/-- `ADC B` (R85). -/
def execAdc_B (s : State) : Out := .next ((s.adcToA (s.operand (.reg .b))).advance 1)

/-- `ADC C` (R85). -/
def execAdc_C (s : State) : Out := .next ((s.adcToA (s.operand (.reg .c))).advance 1)

/-- `ADC D` (R85). -/
def execAdc_D (s : State) : Out := .next ((s.adcToA (s.operand (.reg .d))).advance 1)

/-- `ADC E` (R85). -/
def execAdc_E (s : State) : Out := .next ((s.adcToA (s.operand (.reg .e))).advance 1)

/-- `ADC H` (R85). -/
def execAdc_H (s : State) : Out := .next ((s.adcToA (s.operand (.reg .h))).advance 1)

/-- `ADC L` (R85). -/
def execAdc_L (s : State) : Out := .next ((s.adcToA (s.operand (.reg .l))).advance 1)

/-- `ADC M` (R86). -/
def execAdc_M (s : State) : Out := .next ((s.adcToA (s.operand .m)).advance 1)

/-- `ADC A` (R85). -/
def execAdc_A (s : State) : Out := .next ((s.adcToA (s.operand (.reg .a))).advance 1)

/-- `ACI d8` (R87). -/
def execAci (d8 : Byte) (s : State) : Out := .next ((s.adcToA d8).advance 2)

/-! ### `SUB` and `SUI` -/

/-- `SUB B` (R88). -/
def execSub_B (s : State) : Out := .next ((s.subFromA (s.operand (.reg .b))).advance 1)

/-- `SUB C` (R88). -/
def execSub_C (s : State) : Out := .next ((s.subFromA (s.operand (.reg .c))).advance 1)

/-- `SUB D` (R88). -/
def execSub_D (s : State) : Out := .next ((s.subFromA (s.operand (.reg .d))).advance 1)

/-- `SUB E` (R88). -/
def execSub_E (s : State) : Out := .next ((s.subFromA (s.operand (.reg .e))).advance 1)

/-- `SUB H` (R88). -/
def execSub_H (s : State) : Out := .next ((s.subFromA (s.operand (.reg .h))).advance 1)

/-- `SUB L` (R88). -/
def execSub_L (s : State) : Out := .next ((s.subFromA (s.operand (.reg .l))).advance 1)

/-- `SUB M` (R89). -/
def execSub_M (s : State) : Out := .next ((s.subFromA (s.operand .m)).advance 1)

/-- `SUB A` (R88). -/
def execSub_A (s : State) : Out := .next ((s.subFromA (s.operand (.reg .a))).advance 1)

/-- `SUI d8` (R90). -/
def execSui (d8 : Byte) (s : State) : Out := .next ((s.subFromA d8).advance 2)

/-! ### `SBB` and `SBI` -/

/-- `SBB B` (R91). -/
def execSbb_B (s : State) : Out := .next ((s.sbbFromA (s.operand (.reg .b))).advance 1)

/-- `SBB C` (R91). -/
def execSbb_C (s : State) : Out := .next ((s.sbbFromA (s.operand (.reg .c))).advance 1)

/-- `SBB D` (R91). -/
def execSbb_D (s : State) : Out := .next ((s.sbbFromA (s.operand (.reg .d))).advance 1)

/-- `SBB E` (R91). -/
def execSbb_E (s : State) : Out := .next ((s.sbbFromA (s.operand (.reg .e))).advance 1)

/-- `SBB H` (R91). -/
def execSbb_H (s : State) : Out := .next ((s.sbbFromA (s.operand (.reg .h))).advance 1)

/-- `SBB L` (R91). -/
def execSbb_L (s : State) : Out := .next ((s.sbbFromA (s.operand (.reg .l))).advance 1)

/-- `SBB M` (R92). -/
def execSbb_M (s : State) : Out := .next ((s.sbbFromA (s.operand .m)).advance 1)

/-- `SBB A` (R91). -/
def execSbb_A (s : State) : Out := .next ((s.sbbFromA (s.operand (.reg .a))).advance 1)

/-- `SBI d8` (R93). -/
def execSbi (d8 : Byte) (s : State) : Out := .next ((s.sbbFromA d8).advance 2)

/-! ### `CMP` and `CPI` -/

/-- `CMP B` (R94). -/
def execCmp_B (s : State) : Out := .next ((s.cmpWithA (s.operand (.reg .b))).advance 1)

/-- `CMP C` (R94). -/
def execCmp_C (s : State) : Out := .next ((s.cmpWithA (s.operand (.reg .c))).advance 1)

/-- `CMP D` (R94). -/
def execCmp_D (s : State) : Out := .next ((s.cmpWithA (s.operand (.reg .d))).advance 1)

/-- `CMP E` (R94). -/
def execCmp_E (s : State) : Out := .next ((s.cmpWithA (s.operand (.reg .e))).advance 1)

/-- `CMP H` (R94). -/
def execCmp_H (s : State) : Out := .next ((s.cmpWithA (s.operand (.reg .h))).advance 1)

/-- `CMP L` (R94). -/
def execCmp_L (s : State) : Out := .next ((s.cmpWithA (s.operand (.reg .l))).advance 1)

/-- `CMP M` (R95). -/
def execCmp_M (s : State) : Out := .next ((s.cmpWithA (s.operand .m)).advance 1)

/-- `CMP A` (R94). -/
def execCmp_A (s : State) : Out := .next ((s.cmpWithA (s.operand (.reg .a))).advance 1)

/-- `CPI d8` (R96). -/
def execCpi (d8 : Byte) (s : State) : Out := .next ((s.cmpWithA d8).advance 2)

/-! ### `INR` -/

/-- `INR B` (R97). -/
def execInr_B (s : State) : Out := .next ((s.incOperand (.reg .b)).advance 1)

/-- `INR C` (R97). -/
def execInr_C (s : State) : Out := .next ((s.incOperand (.reg .c)).advance 1)

/-- `INR D` (R97). -/
def execInr_D (s : State) : Out := .next ((s.incOperand (.reg .d)).advance 1)

/-- `INR E` (R97). -/
def execInr_E (s : State) : Out := .next ((s.incOperand (.reg .e)).advance 1)

/-- `INR H` (R97). -/
def execInr_H (s : State) : Out := .next ((s.incOperand (.reg .h)).advance 1)

/-- `INR L` (R97). -/
def execInr_L (s : State) : Out := .next ((s.incOperand (.reg .l)).advance 1)

/-- `INR M` (R98). -/
def execInr_M (s : State) : Out := .next ((s.incOperand .m).advance 1)

/-- `INR A` (R97). -/
def execInr_A (s : State) : Out := .next ((s.incOperand (.reg .a)).advance 1)

/-! ### `DCR` -/

/-- `DCR B` (R99). -/
def execDcr_B (s : State) : Out := .next ((s.decOperand (.reg .b)).advance 1)

/-- `DCR C` (R99). -/
def execDcr_C (s : State) : Out := .next ((s.decOperand (.reg .c)).advance 1)

/-- `DCR D` (R99). -/
def execDcr_D (s : State) : Out := .next ((s.decOperand (.reg .d)).advance 1)

/-- `DCR E` (R99). -/
def execDcr_E (s : State) : Out := .next ((s.decOperand (.reg .e)).advance 1)

/-- `DCR H` (R99). -/
def execDcr_H (s : State) : Out := .next ((s.decOperand (.reg .h)).advance 1)

/-- `DCR L` (R99). -/
def execDcr_L (s : State) : Out := .next ((s.decOperand (.reg .l)).advance 1)

/-- `DCR M` (R100). -/
def execDcr_M (s : State) : Out := .next ((s.decOperand .m).advance 1)

/-- `DCR A` (R99). -/
def execDcr_A (s : State) : Out := .next ((s.decOperand (.reg .a)).advance 1)

/-! ### `INX` -/

/-- `INX B` (R101). -/
def execInx_B (s : State) : Out := .next ((s.incPair (.pair .bc)).advance 1)

/-- `INX D` (R101). -/
def execInx_D (s : State) : Out := .next ((s.incPair (.pair .de)).advance 1)

/-- `INX H` (R101). -/
def execInx_H (s : State) : Out := .next ((s.incPair (.pair .hl)).advance 1)

/-- `INX SP` (R101). -/
def execInx_SP (s : State) : Out := .next ((s.incPair .sp).advance 1)

/-! ### `DCX` -/

/-- `DCX B` (R102). -/
def execDcx_B (s : State) : Out := .next ((s.decPair (.pair .bc)).advance 1)

/-- `DCX D` (R102). -/
def execDcx_D (s : State) : Out := .next ((s.decPair (.pair .de)).advance 1)

/-- `DCX H` (R102). -/
def execDcx_H (s : State) : Out := .next ((s.decPair (.pair .hl)).advance 1)

/-- `DCX SP` (R102). -/
def execDcx_SP (s : State) : Out := .next ((s.decPair .sp).advance 1)

/-! ### `DAD` -/

/-- `DAD B` (R103). -/
def execDad_B (s : State) : Out := .next ((s.dad (.pair .bc)).advance 1)

/-- `DAD D` (R103). -/
def execDad_D (s : State) : Out := .next ((s.dad (.pair .de)).advance 1)

/-- `DAD H` (R103). -/
def execDad_H (s : State) : Out := .next ((s.dad (.pair .hl)).advance 1)

/-- `DAD SP` (R103). -/
def execDad_SP (s : State) : Out := .next ((s.dad .sp).advance 1)

end Sys2Proof.Machine
end

