-- ==== Sys2Proof/Machine/Control.lean ====
section
/-! DEFINITION. The meanings of the control-transfer instructions (44_control_flow.md). None writes a flag;
none raises a fault; no target is checked. -/

namespace Sys2Proof.Machine

/-- A conditional instruction: the transfer if the condition holds, otherwise fall through by its length (R65). -/
def State.branchIf (s : State) (cc : Cond) (length : Nat) (taken : State) : State :=
  if condHolds cc s.f then taken else s.advance length

/-- The return address of an instruction: `(PC + length) mod 65536` (R163, R167). For `RST`:
DESIGN CHOICE (the spec's D14, log 15). -/
def State.after (s : State) (length : Nat) : Word := s.pc + BitVec.ofNat 16 length

/-- `JMP a16` (R161). -/
def execJmp (a16 : Word) (s : State) : Out := .next { s with pc := a16 }

/-- `JNZ a16` (R162). -/
def execJnz (a16 : Word) (s : State) : Out := .next (s.branchIf .nz 3 { s with pc := a16 })

/-- `JZ a16` (R162). -/
def execJz (a16 : Word) (s : State) : Out := .next (s.branchIf .z 3 { s with pc := a16 })

/-- `JNC a16` (R162). -/
def execJnc (a16 : Word) (s : State) : Out := .next (s.branchIf .nc 3 { s with pc := a16 })

/-- `JC a16` (R162). -/
def execJc (a16 : Word) (s : State) : Out := .next (s.branchIf .c 3 { s with pc := a16 })

/-- `JPO a16` (R162). -/
def execJpo (a16 : Word) (s : State) : Out := .next (s.branchIf .po 3 { s with pc := a16 })

/-- `JPE a16` (R162). -/
def execJpe (a16 : Word) (s : State) : Out := .next (s.branchIf .pe 3 { s with pc := a16 })

/-- `JP a16` (R162). -/
def execJp (a16 : Word) (s : State) : Out := .next (s.branchIf .p 3 { s with pc := a16 })

/-- `JM a16` (R162). -/
def execJm (a16 : Word) (s : State) : Out := .next (s.branchIf .m 3 { s with pc := a16 })

/-- `CALL a16` (R163). -/
def execCall (a16 : Word) (s : State) : Out := .next (s.call (s.after 3) a16)

/-- `CNZ a16` (R164). -/
def execCnz (a16 : Word) (s : State) : Out := .next (s.branchIf .nz 3 (s.call (s.after 3) a16))

/-- `CZ a16` (R164). -/
def execCz (a16 : Word) (s : State) : Out := .next (s.branchIf .z 3 (s.call (s.after 3) a16))

/-- `CNC a16` (R164). -/
def execCnc (a16 : Word) (s : State) : Out := .next (s.branchIf .nc 3 (s.call (s.after 3) a16))

/-- `CC a16` (R164). -/
def execCc (a16 : Word) (s : State) : Out := .next (s.branchIf .c 3 (s.call (s.after 3) a16))

/-- `CPO a16` (R164). -/
def execCpo (a16 : Word) (s : State) : Out := .next (s.branchIf .po 3 (s.call (s.after 3) a16))

/-- `CPE a16` (R164). -/
def execCpe (a16 : Word) (s : State) : Out := .next (s.branchIf .pe 3 (s.call (s.after 3) a16))

/-- `CP a16` (R164). -/
def execCp (a16 : Word) (s : State) : Out := .next (s.branchIf .p 3 (s.call (s.after 3) a16))

/-- `CM a16` (R164). -/
def execCm (a16 : Word) (s : State) : Out := .next (s.branchIf .m 3 (s.call (s.after 3) a16))

/-- `RET` (R165). -/
def execRet (s : State) : Out := .next s.ret

/-- `RNZ` (R166). -/
def execRnz (s : State) : Out := .next (s.branchIf .nz 1 s.ret)

/-- `RZ` (R166). -/
def execRz (s : State) : Out := .next (s.branchIf .z 1 s.ret)

/-- `RNC` (R166). -/
def execRnc (s : State) : Out := .next (s.branchIf .nc 1 s.ret)

/-- `RC` (R166). -/
def execRc (s : State) : Out := .next (s.branchIf .c 1 s.ret)

/-- `RPO` (R166). -/
def execRpo (s : State) : Out := .next (s.branchIf .po 1 s.ret)

/-- `RPE` (R166). -/
def execRpe (s : State) : Out := .next (s.branchIf .pe 1 s.ret)

/-- `RP` (R166). -/
def execRp (s : State) : Out := .next (s.branchIf .p 1 s.ret)

/-- `RM` (R166). -/
def execRm (s : State) : Out := .next (s.branchIf .m 1 s.ret)

/-- `RST 0` (R167). -/
def execRst_0 (s : State) : Out := .next (s.call (s.after 1) 0x0000)

/-- `RST 1` (R167). -/
def execRst_1 (s : State) : Out := .next (s.call (s.after 1) 0x0008)

/-- `RST 2` (R167). -/
def execRst_2 (s : State) : Out := .next (s.call (s.after 1) 0x0010)

/-- `RST 3` (R167). -/
def execRst_3 (s : State) : Out := .next (s.call (s.after 1) 0x0018)

/-- `RST 4` (R167). -/
def execRst_4 (s : State) : Out := .next (s.call (s.after 1) 0x0020)

/-- `RST 5` (R167). -/
def execRst_5 (s : State) : Out := .next (s.call (s.after 1) 0x0028)

/-- `RST 6` (R167). -/
def execRst_6 (s : State) : Out := .next (s.call (s.after 1) 0x0030)

/-- `RST 7` (R167). -/
def execRst_7 (s : State) : Out := .next (s.call (s.after 1) 0x0038)

/-- `PCHL` (R168). -/
def execPchl (s : State) : Out := .next { s with pc := s.hl }

end Sys2Proof.Machine
end

