-- ==== Sys2Proof/Machine/Io.lean ====
section
/-! DEFINITION. The meanings of the port and machine-control instructions (45_io_and_machine_control.md), and
what a byte that is no instruction does (R210). -/

namespace Sys2Proof.Machine

/-- `IN d8` (R182). -/
def execInp (d8 : Byte) (s : State) : Out :=
  match s.portHandler with
  | none => .next (s.raise .missingPortHandler)
  | some h =>
    .next (State.advance { s.logPort (.read d8 (s.portAnswer h d8)) with a := s.portAnswer h d8 } 2)

/-- `OUT d8` (R183). -/
def execOut (d8 : Byte) (s : State) : Out :=
  match s.portHandler with
  | none => .next (s.raise .missingPortHandler)
  | some _ => .next ((s.logPort (.write d8 s.a)).advance 2)

/-- `NOP` (R184). -/
def execNop (s : State) : Out := .next (s.advance 1)

/-- `HLT` (R185). -/
def execHlt (s : State) : Out := .next (State.advance { s with halted := true } 1)

/-- `QUIT` (R186). -/
def execQuit (s : State) : Out := .next (State.advance { s with stopped := true } 1)

/-- `EI` (R187). -/
def execEi (s : State) : Out := .next (State.advance { s with ie := true } 1)

/-- `DI` (R188). -/
def execDi (s : State) : Out := .next (State.advance { s with ie := false } 1)

/-- A byte that is no instruction: `raise UnrecognizedOpcode(op)` (R210, R212). -/
def execUnrecognized (op : Byte) (s : State) : Out := .next (s.raise (.unrecognizedOpcode op))

end Sys2Proof.Machine
end

