-- ==== Sys2Proof/Machine/Logic.lean ====
section
/-! DEFINITION. The meanings of the logic, rotate, BCD-adjust and carry instructions
(41_logic_rotate_bcd.md). None writes memory; none raises a fault. -/

namespace Sys2Proof.Machine

/-- `A <- Logic8(and, A, b)` (R110). -/
def State.anaWithA (s : State) (b : Byte) : State := s.setAlu (and8 s.a b s.f)

/-- `A <- Logic8(xor, A, b)` (R110). -/
def State.xraWithA (s : State) (b : Byte) : State := s.setAlu (xor8 s.a b s.f)

/-- `A <- Logic8(or, A, b)` (R110). -/
def State.oraWithA (s : State) (b : Byte) : State := s.setAlu (or8 s.a b s.f)

/-! ### `ANA` and `ANI` -/

/-- `ANA B` (R111). -/
def execAna_B (s : State) : Out := .next ((s.anaWithA (s.operand (.reg .b))).advance 1)

/-- `ANA C` (R111). -/
def execAna_C (s : State) : Out := .next ((s.anaWithA (s.operand (.reg .c))).advance 1)

/-- `ANA D` (R111). -/
def execAna_D (s : State) : Out := .next ((s.anaWithA (s.operand (.reg .d))).advance 1)

/-- `ANA E` (R111). -/
def execAna_E (s : State) : Out := .next ((s.anaWithA (s.operand (.reg .e))).advance 1)

/-- `ANA H` (R111). -/
def execAna_H (s : State) : Out := .next ((s.anaWithA (s.operand (.reg .h))).advance 1)

/-- `ANA L` (R111). -/
def execAna_L (s : State) : Out := .next ((s.anaWithA (s.operand (.reg .l))).advance 1)

/-- `ANA M` (R112). -/
def execAna_M (s : State) : Out := .next ((s.anaWithA (s.operand .m)).advance 1)

/-- `ANA A` (R111). -/
def execAna_A (s : State) : Out := .next ((s.anaWithA (s.operand (.reg .a))).advance 1)

/-- `ANI d8` (R113). -/
def execAni (d8 : Byte) (s : State) : Out := .next ((s.anaWithA d8).advance 2)

/-! ### `XRA` and `XRI` -/

/-- `XRA B` (R114). -/
def execXra_B (s : State) : Out := .next ((s.xraWithA (s.operand (.reg .b))).advance 1)

/-- `XRA C` (R114). -/
def execXra_C (s : State) : Out := .next ((s.xraWithA (s.operand (.reg .c))).advance 1)

/-- `XRA D` (R114). -/
def execXra_D (s : State) : Out := .next ((s.xraWithA (s.operand (.reg .d))).advance 1)

/-- `XRA E` (R114). -/
def execXra_E (s : State) : Out := .next ((s.xraWithA (s.operand (.reg .e))).advance 1)

/-- `XRA H` (R114). -/
def execXra_H (s : State) : Out := .next ((s.xraWithA (s.operand (.reg .h))).advance 1)

/-- `XRA L` (R114). -/
def execXra_L (s : State) : Out := .next ((s.xraWithA (s.operand (.reg .l))).advance 1)

/-- `XRA M` (R115). -/
def execXra_M (s : State) : Out := .next ((s.xraWithA (s.operand .m)).advance 1)

/-- `XRA A` (R114). -/
def execXra_A (s : State) : Out := .next ((s.xraWithA (s.operand (.reg .a))).advance 1)

/-- `XRI d8` (R116). -/
def execXri (d8 : Byte) (s : State) : Out := .next ((s.xraWithA d8).advance 2)

/-! ### `ORA` and `ORI` -/

/-- `ORA B` (R117). -/
def execOra_B (s : State) : Out := .next ((s.oraWithA (s.operand (.reg .b))).advance 1)

/-- `ORA C` (R117). -/
def execOra_C (s : State) : Out := .next ((s.oraWithA (s.operand (.reg .c))).advance 1)

/-- `ORA D` (R117). -/
def execOra_D (s : State) : Out := .next ((s.oraWithA (s.operand (.reg .d))).advance 1)

/-- `ORA E` (R117). -/
def execOra_E (s : State) : Out := .next ((s.oraWithA (s.operand (.reg .e))).advance 1)

/-- `ORA H` (R117). -/
def execOra_H (s : State) : Out := .next ((s.oraWithA (s.operand (.reg .h))).advance 1)

/-- `ORA L` (R117). -/
def execOra_L (s : State) : Out := .next ((s.oraWithA (s.operand (.reg .l))).advance 1)

/-- `ORA M` (R118). -/
def execOra_M (s : State) : Out := .next ((s.oraWithA (s.operand .m)).advance 1)

/-- `ORA A` (R117). -/
def execOra_A (s : State) : Out := .next ((s.oraWithA (s.operand (.reg .a))).advance 1)

/-- `ORI d8` (R119). -/
def execOri (d8 : Byte) (s : State) : Out := .next ((s.oraWithA d8).advance 2)

/-! ### Rotates, decimal adjust, complement and carry -/

/-- `RLC` (R120). -/
def execRlc (s : State) : Out := .next ((s.setAlu (rlc8 s.a s.f)).advance 1)

/-- `RRC` (R121). -/
def execRrc (s : State) : Out := .next ((s.setAlu (rrc8 s.a s.f)).advance 1)

/-- `RAL` (R122). -/
def execRal (s : State) : Out := .next ((s.setAlu (ral8 s.a s.f)).advance 1)

/-- `RAR` (R123). -/
def execRar (s : State) : Out := .next ((s.setAlu (rar8 s.a s.f)).advance 1)

/-- `DAA` (R124). -/
def execDaa (s : State) : Out := .next ((s.setAlu (daa8 s.a s.f)).advance 1)

/-- `CMA` (R125). -/
def execCma (s : State) : Out := .next (State.advance { s with a := s.a ^^^ 0xFF } 1)

/-- `STC` (R126). -/
def execStc (s : State) : Out := .next (State.advance { s with f := setFlag .cy true s.f } 1)

/-- `CMC` (R127). -/
def execCmc (s : State) : Out := .next (State.advance { s with f := setFlag .cy (!s.flag .cy) s.f } 1)

end Sys2Proof.Machine
end

