-- ==== Sys2Proof/Machine/Stack.lean ====
section
/-! DEFINITION. The meanings of the stack instructions (43_stack.md). No stack limit is checked; none raises
a fault. -/

namespace Sys2Proof.Machine

/-- `PUSH B` (R152). -/
def execPush_B (s : State) : Out := .next ((s.push16 (s.pairPsw (.pair .bc))).advance 1)

/-- `PUSH D` (R152). -/
def execPush_D (s : State) : Out := .next ((s.push16 (s.pairPsw (.pair .de))).advance 1)

/-- `PUSH H` (R152). -/
def execPush_H (s : State) : Out := .next ((s.push16 (s.pairPsw (.pair .hl))).advance 1)

/-- `PUSH PSW` (R153). -/
def execPush_PSW (s : State) : Out := .next ((s.push16 (s.pairPsw .psw)).advance 1)

/-- `POP B` (R154). -/
def execPop_B (s : State) : Out := .next ((s.dropTop.setPairPsw (.pair .bc) s.stackTop).advance 1)

/-- `POP D` (R154). -/
def execPop_D (s : State) : Out := .next ((s.dropTop.setPairPsw (.pair .de) s.stackTop).advance 1)

/-- `POP H` (R154). -/
def execPop_H (s : State) : Out := .next ((s.dropTop.setPairPsw (.pair .hl) s.stackTop).advance 1)

/-- `POP PSW` (R155). -/
def execPop_PSW (s : State) : Out := .next ((s.dropTop.setPairPsw .psw s.stackTop).advance 1)

/-- `XTHL` reads both stack bytes, then writes `L` at SP and `H` at SP+1, then loads HL (R156). -/
def State.exchangeTop (s : State) : State :=
  let s1 := s.memWrite (spAddr s.sp) s.l
  let s2 := s1.memWrite (spAddr (spAdd s.sp 1)) s.h
  s2.setPair .hl s.stackTop

/-- `XTHL` (R156). -/
def execXthl (s : State) : Out := .next (s.exchangeTop.advance 1)

/-- `SPHL` (R157). -/
def execSphl (s : State) : Out := .next (State.advance { s with sp := spOfWord s.hl } 1)

end Sys2Proof.Machine
end

