-- ==== Sys2Proof/Machine/Transfer.lean ====
section
/-! DEFINITION. The meanings of the data-transfer instructions (42_data_transfer.md). None writes a flag;
none raises a fault. -/

namespace Sys2Proof.Machine

/-- `r[ddd] <- r[sss]`: a register or the byte at HL to a register or to the byte at HL (R130, R131, R132). -/
def State.mov (s : State) (dst src : Operand) : State := s.setOperand dst (s.operand src)

/-- `A <- MemRead(addr, 1)` (R136, R138). -/
def State.loadA (s : State) (addr : Word) : State := { s with a := s.memRead addr }

/-- `MemWrite(addr, 1, A)` (R137, R139). -/
def State.storeA (s : State) (addr : Word) : State := s.memWrite addr s.a

/-! ### `MOV` -/

/-- `MOV B,B` (R130). -/
def execMov_B_B (s : State) : Out := .next ((s.mov (.reg .b) (.reg .b)).advance 1)

/-- `MOV B,C` (R130). -/
def execMov_B_C (s : State) : Out := .next ((s.mov (.reg .b) (.reg .c)).advance 1)

/-- `MOV B,D` (R130). -/
def execMov_B_D (s : State) : Out := .next ((s.mov (.reg .b) (.reg .d)).advance 1)

/-- `MOV B,E` (R130). -/
def execMov_B_E (s : State) : Out := .next ((s.mov (.reg .b) (.reg .e)).advance 1)

/-- `MOV B,H` (R130). -/
def execMov_B_H (s : State) : Out := .next ((s.mov (.reg .b) (.reg .h)).advance 1)

/-- `MOV B,L` (R130). -/
def execMov_B_L (s : State) : Out := .next ((s.mov (.reg .b) (.reg .l)).advance 1)

/-- `MOV B,M` (R131). -/
def execMov_B_M (s : State) : Out := .next ((s.mov (.reg .b) .m).advance 1)

/-- `MOV B,A` (R130). -/
def execMov_B_A (s : State) : Out := .next ((s.mov (.reg .b) (.reg .a)).advance 1)

/-- `MOV C,B` (R130). -/
def execMov_C_B (s : State) : Out := .next ((s.mov (.reg .c) (.reg .b)).advance 1)

/-- `MOV C,C` (R130). -/
def execMov_C_C (s : State) : Out := .next ((s.mov (.reg .c) (.reg .c)).advance 1)

/-- `MOV C,D` (R130). -/
def execMov_C_D (s : State) : Out := .next ((s.mov (.reg .c) (.reg .d)).advance 1)

/-- `MOV C,E` (R130). -/
def execMov_C_E (s : State) : Out := .next ((s.mov (.reg .c) (.reg .e)).advance 1)

/-- `MOV C,H` (R130). -/
def execMov_C_H (s : State) : Out := .next ((s.mov (.reg .c) (.reg .h)).advance 1)

/-- `MOV C,L` (R130). -/
def execMov_C_L (s : State) : Out := .next ((s.mov (.reg .c) (.reg .l)).advance 1)

/-- `MOV C,M` (R131). -/
def execMov_C_M (s : State) : Out := .next ((s.mov (.reg .c) .m).advance 1)

/-- `MOV C,A` (R130). -/
def execMov_C_A (s : State) : Out := .next ((s.mov (.reg .c) (.reg .a)).advance 1)

/-- `MOV D,B` (R130). -/
def execMov_D_B (s : State) : Out := .next ((s.mov (.reg .d) (.reg .b)).advance 1)

/-- `MOV D,C` (R130). -/
def execMov_D_C (s : State) : Out := .next ((s.mov (.reg .d) (.reg .c)).advance 1)

/-- `MOV D,D` (R130). -/
def execMov_D_D (s : State) : Out := .next ((s.mov (.reg .d) (.reg .d)).advance 1)

/-- `MOV D,E` (R130). -/
def execMov_D_E (s : State) : Out := .next ((s.mov (.reg .d) (.reg .e)).advance 1)

/-- `MOV D,H` (R130). -/
def execMov_D_H (s : State) : Out := .next ((s.mov (.reg .d) (.reg .h)).advance 1)

/-- `MOV D,L` (R130). -/
def execMov_D_L (s : State) : Out := .next ((s.mov (.reg .d) (.reg .l)).advance 1)

/-- `MOV D,M` (R131). -/
def execMov_D_M (s : State) : Out := .next ((s.mov (.reg .d) .m).advance 1)

/-- `MOV D,A` (R130). -/
def execMov_D_A (s : State) : Out := .next ((s.mov (.reg .d) (.reg .a)).advance 1)

/-- `MOV E,B` (R130). -/
def execMov_E_B (s : State) : Out := .next ((s.mov (.reg .e) (.reg .b)).advance 1)

/-- `MOV E,C` (R130). -/
def execMov_E_C (s : State) : Out := .next ((s.mov (.reg .e) (.reg .c)).advance 1)

/-- `MOV E,D` (R130). -/
def execMov_E_D (s : State) : Out := .next ((s.mov (.reg .e) (.reg .d)).advance 1)

/-- `MOV E,E` (R130). -/
def execMov_E_E (s : State) : Out := .next ((s.mov (.reg .e) (.reg .e)).advance 1)

/-- `MOV E,H` (R130). -/
def execMov_E_H (s : State) : Out := .next ((s.mov (.reg .e) (.reg .h)).advance 1)

/-- `MOV E,L` (R130). -/
def execMov_E_L (s : State) : Out := .next ((s.mov (.reg .e) (.reg .l)).advance 1)

/-- `MOV E,M` (R131). -/
def execMov_E_M (s : State) : Out := .next ((s.mov (.reg .e) .m).advance 1)

/-- `MOV E,A` (R130). -/
def execMov_E_A (s : State) : Out := .next ((s.mov (.reg .e) (.reg .a)).advance 1)

/-- `MOV H,B` (R130). -/
def execMov_H_B (s : State) : Out := .next ((s.mov (.reg .h) (.reg .b)).advance 1)

/-- `MOV H,C` (R130). -/
def execMov_H_C (s : State) : Out := .next ((s.mov (.reg .h) (.reg .c)).advance 1)

/-- `MOV H,D` (R130). -/
def execMov_H_D (s : State) : Out := .next ((s.mov (.reg .h) (.reg .d)).advance 1)

/-- `MOV H,E` (R130). -/
def execMov_H_E (s : State) : Out := .next ((s.mov (.reg .h) (.reg .e)).advance 1)

/-- `MOV H,H` (R130). -/
def execMov_H_H (s : State) : Out := .next ((s.mov (.reg .h) (.reg .h)).advance 1)

/-- `MOV H,L` (R130). -/
def execMov_H_L (s : State) : Out := .next ((s.mov (.reg .h) (.reg .l)).advance 1)

/-- `MOV H,M` (R131). -/
def execMov_H_M (s : State) : Out := .next ((s.mov (.reg .h) .m).advance 1)

/-- `MOV H,A` (R130). -/
def execMov_H_A (s : State) : Out := .next ((s.mov (.reg .h) (.reg .a)).advance 1)

/-- `MOV L,B` (R130). -/
def execMov_L_B (s : State) : Out := .next ((s.mov (.reg .l) (.reg .b)).advance 1)

/-- `MOV L,C` (R130). -/
def execMov_L_C (s : State) : Out := .next ((s.mov (.reg .l) (.reg .c)).advance 1)

/-- `MOV L,D` (R130). -/
def execMov_L_D (s : State) : Out := .next ((s.mov (.reg .l) (.reg .d)).advance 1)

/-- `MOV L,E` (R130). -/
def execMov_L_E (s : State) : Out := .next ((s.mov (.reg .l) (.reg .e)).advance 1)

/-- `MOV L,H` (R130). -/
def execMov_L_H (s : State) : Out := .next ((s.mov (.reg .l) (.reg .h)).advance 1)

/-- `MOV L,L` (R130). -/
def execMov_L_L (s : State) : Out := .next ((s.mov (.reg .l) (.reg .l)).advance 1)

/-- `MOV L,M` (R131). -/
def execMov_L_M (s : State) : Out := .next ((s.mov (.reg .l) .m).advance 1)

/-- `MOV L,A` (R130). -/
def execMov_L_A (s : State) : Out := .next ((s.mov (.reg .l) (.reg .a)).advance 1)

/-- `MOV M,B` (R132). -/
def execMov_M_B (s : State) : Out := .next ((s.mov .m (.reg .b)).advance 1)

/-- `MOV M,C` (R132). -/
def execMov_M_C (s : State) : Out := .next ((s.mov .m (.reg .c)).advance 1)

/-- `MOV M,D` (R132). -/
def execMov_M_D (s : State) : Out := .next ((s.mov .m (.reg .d)).advance 1)

/-- `MOV M,E` (R132). -/
def execMov_M_E (s : State) : Out := .next ((s.mov .m (.reg .e)).advance 1)

/-- `MOV M,H` (R132). -/
def execMov_M_H (s : State) : Out := .next ((s.mov .m (.reg .h)).advance 1)

/-- `MOV M,L` (R132). -/
def execMov_M_L (s : State) : Out := .next ((s.mov .m (.reg .l)).advance 1)

/-- `MOV M,A` (R132). -/
def execMov_M_A (s : State) : Out := .next ((s.mov .m (.reg .a)).advance 1)

/-- `MOV A,B` (R130). -/
def execMov_A_B (s : State) : Out := .next ((s.mov (.reg .a) (.reg .b)).advance 1)

/-- `MOV A,C` (R130). -/
def execMov_A_C (s : State) : Out := .next ((s.mov (.reg .a) (.reg .c)).advance 1)

/-- `MOV A,D` (R130). -/
def execMov_A_D (s : State) : Out := .next ((s.mov (.reg .a) (.reg .d)).advance 1)

/-- `MOV A,E` (R130). -/
def execMov_A_E (s : State) : Out := .next ((s.mov (.reg .a) (.reg .e)).advance 1)

/-- `MOV A,H` (R130). -/
def execMov_A_H (s : State) : Out := .next ((s.mov (.reg .a) (.reg .h)).advance 1)

/-- `MOV A,L` (R130). -/
def execMov_A_L (s : State) : Out := .next ((s.mov (.reg .a) (.reg .l)).advance 1)

/-- `MOV A,M` (R131). -/
def execMov_A_M (s : State) : Out := .next ((s.mov (.reg .a) .m).advance 1)

/-- `MOV A,A` (R130). -/
def execMov_A_A (s : State) : Out := .next ((s.mov (.reg .a) (.reg .a)).advance 1)

/-! ### `MVI`, `LXI` -/

/-- `MVI B,d8` (R133). -/
def execMvi_B (d8 : Byte) (s : State) : Out := .next ((s.setOperand (.reg .b) d8).advance 2)

/-- `MVI C,d8` (R133). -/
def execMvi_C (d8 : Byte) (s : State) : Out := .next ((s.setOperand (.reg .c) d8).advance 2)

/-- `MVI D,d8` (R133). -/
def execMvi_D (d8 : Byte) (s : State) : Out := .next ((s.setOperand (.reg .d) d8).advance 2)

/-- `MVI E,d8` (R133). -/
def execMvi_E (d8 : Byte) (s : State) : Out := .next ((s.setOperand (.reg .e) d8).advance 2)

/-- `MVI H,d8` (R133). -/
def execMvi_H (d8 : Byte) (s : State) : Out := .next ((s.setOperand (.reg .h) d8).advance 2)

/-- `MVI L,d8` (R133). -/
def execMvi_L (d8 : Byte) (s : State) : Out := .next ((s.setOperand (.reg .l) d8).advance 2)

/-- `MVI M,d8` (R134). -/
def execMvi_M (d8 : Byte) (s : State) : Out := .next ((s.setOperand .m d8).advance 2)

/-- `MVI A,d8` (R133). -/
def execMvi_A (d8 : Byte) (s : State) : Out := .next ((s.setOperand (.reg .a) d8).advance 2)

/-- `LXI B,d16` (R135). -/
def execLxi_B (d16 : Word) (s : State) : Out := .next ((s.setPairSp (.pair .bc) d16).advance 3)

/-- `LXI D,d16` (R135). -/
def execLxi_D (d16 : Word) (s : State) : Out := .next ((s.setPairSp (.pair .de) d16).advance 3)

/-- `LXI H,d16` (R135). -/
def execLxi_H (d16 : Word) (s : State) : Out := .next ((s.setPairSp (.pair .hl) d16).advance 3)

/-- `LXI SP,d16` (R135). -/
def execLxi_SP (d16 : Word) (s : State) : Out := .next ((s.setPairSp .sp d16).advance 3)

/-! ### Loads, stores and the exchange -/

/-- `LDAX B` (R136). -/
def execLdax_B (s : State) : Out := .next ((s.loadA (s.accPair .bc)).advance 1)

/-- `LDAX D` (R136). -/
def execLdax_D (s : State) : Out := .next ((s.loadA (s.accPair .de)).advance 1)

/-- `STAX B` (R137). -/
def execStax_B (s : State) : Out := .next ((s.storeA (s.accPair .bc)).advance 1)

/-- `STAX D` (R137). -/
def execStax_D (s : State) : Out := .next ((s.storeA (s.accPair .de)).advance 1)

/-- `LDA a16` (R138). -/
def execLda (a16 : Word) (s : State) : Out := .next ((s.loadA a16).advance 3)

/-- `STA a16` (R139). -/
def execSta (a16 : Word) (s : State) : Out := .next ((s.storeA a16).advance 3)

/-- `LHLD a16` (R140). -/
def execLhld (a16 : Word) (s : State) : Out := .next ((s.setPair .hl (s.memRead16 a16)).advance 3)

/-- `SHLD a16` (R141). -/
def execShld (a16 : Word) (s : State) : Out := .next ((s.memWrite16 a16 s.hl).advance 3)

/-- `XCHG` (R142). -/
def execXchg (s : State) : Out := .next (((s.setPair .de (s.pair .hl)).setPair .hl (s.pair .de)).advance 1)

end Sys2Proof.Machine
end

