-- ==== Sys2Proof/Machine/Dispatch.lean ====
section
/-! DEFINITION. One arm per constructor of `Instr`, each a direct call of the instruction's meaning. -/

namespace Sys2Proof.Machine

def exec (i : Instr) (s : State) : Host.Outcome State Fault Refusal :=
  match i with
  | .nop => Sys2Proof.Machine.execNop s
  | .lxi_B d16 => Sys2Proof.Machine.execLxi_B d16 s
  | .stax_B => Sys2Proof.Machine.execStax_B s
  | .inx_B => Sys2Proof.Machine.execInx_B s
  | .inr_B => Sys2Proof.Machine.execInr_B s
  | .dcr_B => Sys2Proof.Machine.execDcr_B s
  | .mvi_B d8 => Sys2Proof.Machine.execMvi_B d8 s
  | .rlc => Sys2Proof.Machine.execRlc s
  | .quit => Sys2Proof.Machine.execQuit s
  | .dad_B => Sys2Proof.Machine.execDad_B s
  | .ldax_B => Sys2Proof.Machine.execLdax_B s
  | .dcx_B => Sys2Proof.Machine.execDcx_B s
  | .inr_C => Sys2Proof.Machine.execInr_C s
  | .dcr_C => Sys2Proof.Machine.execDcr_C s
  | .mvi_C d8 => Sys2Proof.Machine.execMvi_C d8 s
  | .rrc => Sys2Proof.Machine.execRrc s
  | .lxi_D d16 => Sys2Proof.Machine.execLxi_D d16 s
  | .stax_D => Sys2Proof.Machine.execStax_D s
  | .inx_D => Sys2Proof.Machine.execInx_D s
  | .inr_D => Sys2Proof.Machine.execInr_D s
  | .dcr_D => Sys2Proof.Machine.execDcr_D s
  | .mvi_D d8 => Sys2Proof.Machine.execMvi_D d8 s
  | .ral => Sys2Proof.Machine.execRal s
  | .dad_D => Sys2Proof.Machine.execDad_D s
  | .ldax_D => Sys2Proof.Machine.execLdax_D s
  | .dcx_D => Sys2Proof.Machine.execDcx_D s
  | .inr_E => Sys2Proof.Machine.execInr_E s
  | .dcr_E => Sys2Proof.Machine.execDcr_E s
  | .mvi_E d8 => Sys2Proof.Machine.execMvi_E d8 s
  | .rar => Sys2Proof.Machine.execRar s
  | .lxi_H d16 => Sys2Proof.Machine.execLxi_H d16 s
  | .shld a16 => Sys2Proof.Machine.execShld a16 s
  | .inx_H => Sys2Proof.Machine.execInx_H s
  | .inr_H => Sys2Proof.Machine.execInr_H s
  | .dcr_H => Sys2Proof.Machine.execDcr_H s
  | .mvi_H d8 => Sys2Proof.Machine.execMvi_H d8 s
  | .daa => Sys2Proof.Machine.execDaa s
  | .dad_H => Sys2Proof.Machine.execDad_H s
  | .lhld a16 => Sys2Proof.Machine.execLhld a16 s
  | .dcx_H => Sys2Proof.Machine.execDcx_H s
  | .inr_L => Sys2Proof.Machine.execInr_L s
  | .dcr_L => Sys2Proof.Machine.execDcr_L s
  | .mvi_L d8 => Sys2Proof.Machine.execMvi_L d8 s
  | .cma => Sys2Proof.Machine.execCma s
  | .lxi_SP d16 => Sys2Proof.Machine.execLxi_SP d16 s
  | .sta a16 => Sys2Proof.Machine.execSta a16 s
  | .inx_SP => Sys2Proof.Machine.execInx_SP s
  | .inr_M => Sys2Proof.Machine.execInr_M s
  | .dcr_M => Sys2Proof.Machine.execDcr_M s
  | .mvi_M d8 => Sys2Proof.Machine.execMvi_M d8 s
  | .stc => Sys2Proof.Machine.execStc s
  | .dad_SP => Sys2Proof.Machine.execDad_SP s
  | .lda a16 => Sys2Proof.Machine.execLda a16 s
  | .dcx_SP => Sys2Proof.Machine.execDcx_SP s
  | .inr_A => Sys2Proof.Machine.execInr_A s
  | .dcr_A => Sys2Proof.Machine.execDcr_A s
  | .mvi_A d8 => Sys2Proof.Machine.execMvi_A d8 s
  | .cmc => Sys2Proof.Machine.execCmc s
  | .mov_B_B => Sys2Proof.Machine.execMov_B_B s
  | .mov_B_C => Sys2Proof.Machine.execMov_B_C s
  | .mov_B_D => Sys2Proof.Machine.execMov_B_D s
  | .mov_B_E => Sys2Proof.Machine.execMov_B_E s
  | .mov_B_H => Sys2Proof.Machine.execMov_B_H s
  | .mov_B_L => Sys2Proof.Machine.execMov_B_L s
  | .mov_B_M => Sys2Proof.Machine.execMov_B_M s
  | .mov_B_A => Sys2Proof.Machine.execMov_B_A s
  | .mov_C_B => Sys2Proof.Machine.execMov_C_B s
  | .mov_C_C => Sys2Proof.Machine.execMov_C_C s
  | .mov_C_D => Sys2Proof.Machine.execMov_C_D s
  | .mov_C_E => Sys2Proof.Machine.execMov_C_E s
  | .mov_C_H => Sys2Proof.Machine.execMov_C_H s
  | .mov_C_L => Sys2Proof.Machine.execMov_C_L s
  | .mov_C_M => Sys2Proof.Machine.execMov_C_M s
  | .mov_C_A => Sys2Proof.Machine.execMov_C_A s
  | .mov_D_B => Sys2Proof.Machine.execMov_D_B s
  | .mov_D_C => Sys2Proof.Machine.execMov_D_C s
  | .mov_D_D => Sys2Proof.Machine.execMov_D_D s
  | .mov_D_E => Sys2Proof.Machine.execMov_D_E s
  | .mov_D_H => Sys2Proof.Machine.execMov_D_H s
  | .mov_D_L => Sys2Proof.Machine.execMov_D_L s
  | .mov_D_M => Sys2Proof.Machine.execMov_D_M s
  | .mov_D_A => Sys2Proof.Machine.execMov_D_A s
  | .mov_E_B => Sys2Proof.Machine.execMov_E_B s
  | .mov_E_C => Sys2Proof.Machine.execMov_E_C s
  | .mov_E_D => Sys2Proof.Machine.execMov_E_D s
  | .mov_E_E => Sys2Proof.Machine.execMov_E_E s
  | .mov_E_H => Sys2Proof.Machine.execMov_E_H s
  | .mov_E_L => Sys2Proof.Machine.execMov_E_L s
  | .mov_E_M => Sys2Proof.Machine.execMov_E_M s
  | .mov_E_A => Sys2Proof.Machine.execMov_E_A s
  | .mov_H_B => Sys2Proof.Machine.execMov_H_B s
  | .mov_H_C => Sys2Proof.Machine.execMov_H_C s
  | .mov_H_D => Sys2Proof.Machine.execMov_H_D s
  | .mov_H_E => Sys2Proof.Machine.execMov_H_E s
  | .mov_H_H => Sys2Proof.Machine.execMov_H_H s
  | .mov_H_L => Sys2Proof.Machine.execMov_H_L s
  | .mov_H_M => Sys2Proof.Machine.execMov_H_M s
  | .mov_H_A => Sys2Proof.Machine.execMov_H_A s
  | .mov_L_B => Sys2Proof.Machine.execMov_L_B s
  | .mov_L_C => Sys2Proof.Machine.execMov_L_C s
  | .mov_L_D => Sys2Proof.Machine.execMov_L_D s
  | .mov_L_E => Sys2Proof.Machine.execMov_L_E s
  | .mov_L_H => Sys2Proof.Machine.execMov_L_H s
  | .mov_L_L => Sys2Proof.Machine.execMov_L_L s
  | .mov_L_M => Sys2Proof.Machine.execMov_L_M s
  | .mov_L_A => Sys2Proof.Machine.execMov_L_A s
  | .mov_M_B => Sys2Proof.Machine.execMov_M_B s
  | .mov_M_C => Sys2Proof.Machine.execMov_M_C s
  | .mov_M_D => Sys2Proof.Machine.execMov_M_D s
  | .mov_M_E => Sys2Proof.Machine.execMov_M_E s
  | .mov_M_H => Sys2Proof.Machine.execMov_M_H s
  | .mov_M_L => Sys2Proof.Machine.execMov_M_L s
  | .hlt => Sys2Proof.Machine.execHlt s
  | .mov_M_A => Sys2Proof.Machine.execMov_M_A s
  | .mov_A_B => Sys2Proof.Machine.execMov_A_B s
  | .mov_A_C => Sys2Proof.Machine.execMov_A_C s
  | .mov_A_D => Sys2Proof.Machine.execMov_A_D s
  | .mov_A_E => Sys2Proof.Machine.execMov_A_E s
  | .mov_A_H => Sys2Proof.Machine.execMov_A_H s
  | .mov_A_L => Sys2Proof.Machine.execMov_A_L s
  | .mov_A_M => Sys2Proof.Machine.execMov_A_M s
  | .mov_A_A => Sys2Proof.Machine.execMov_A_A s
  | .add_B => Sys2Proof.Machine.execAdd_B s
  | .add_C => Sys2Proof.Machine.execAdd_C s
  | .add_D => Sys2Proof.Machine.execAdd_D s
  | .add_E => Sys2Proof.Machine.execAdd_E s
  | .add_H => Sys2Proof.Machine.execAdd_H s
  | .add_L => Sys2Proof.Machine.execAdd_L s
  | .add_M => Sys2Proof.Machine.execAdd_M s
  | .add_A => Sys2Proof.Machine.execAdd_A s
  | .adc_B => Sys2Proof.Machine.execAdc_B s
  | .adc_C => Sys2Proof.Machine.execAdc_C s
  | .adc_D => Sys2Proof.Machine.execAdc_D s
  | .adc_E => Sys2Proof.Machine.execAdc_E s
  | .adc_H => Sys2Proof.Machine.execAdc_H s
  | .adc_L => Sys2Proof.Machine.execAdc_L s
  | .adc_M => Sys2Proof.Machine.execAdc_M s
  | .adc_A => Sys2Proof.Machine.execAdc_A s
  | .sub_B => Sys2Proof.Machine.execSub_B s
  | .sub_C => Sys2Proof.Machine.execSub_C s
  | .sub_D => Sys2Proof.Machine.execSub_D s
  | .sub_E => Sys2Proof.Machine.execSub_E s
  | .sub_H => Sys2Proof.Machine.execSub_H s
  | .sub_L => Sys2Proof.Machine.execSub_L s
  | .sub_M => Sys2Proof.Machine.execSub_M s
  | .sub_A => Sys2Proof.Machine.execSub_A s
  | .sbb_B => Sys2Proof.Machine.execSbb_B s
  | .sbb_C => Sys2Proof.Machine.execSbb_C s
  | .sbb_D => Sys2Proof.Machine.execSbb_D s
  | .sbb_E => Sys2Proof.Machine.execSbb_E s
  | .sbb_H => Sys2Proof.Machine.execSbb_H s
  | .sbb_L => Sys2Proof.Machine.execSbb_L s
  | .sbb_M => Sys2Proof.Machine.execSbb_M s
  | .sbb_A => Sys2Proof.Machine.execSbb_A s
  | .ana_B => Sys2Proof.Machine.execAna_B s
  | .ana_C => Sys2Proof.Machine.execAna_C s
  | .ana_D => Sys2Proof.Machine.execAna_D s
  | .ana_E => Sys2Proof.Machine.execAna_E s
  | .ana_H => Sys2Proof.Machine.execAna_H s
  | .ana_L => Sys2Proof.Machine.execAna_L s
  | .ana_M => Sys2Proof.Machine.execAna_M s
  | .ana_A => Sys2Proof.Machine.execAna_A s
  | .xra_B => Sys2Proof.Machine.execXra_B s
  | .xra_C => Sys2Proof.Machine.execXra_C s
  | .xra_D => Sys2Proof.Machine.execXra_D s
  | .xra_E => Sys2Proof.Machine.execXra_E s
  | .xra_H => Sys2Proof.Machine.execXra_H s
  | .xra_L => Sys2Proof.Machine.execXra_L s
  | .xra_M => Sys2Proof.Machine.execXra_M s
  | .xra_A => Sys2Proof.Machine.execXra_A s
  | .ora_B => Sys2Proof.Machine.execOra_B s
  | .ora_C => Sys2Proof.Machine.execOra_C s
  | .ora_D => Sys2Proof.Machine.execOra_D s
  | .ora_E => Sys2Proof.Machine.execOra_E s
  | .ora_H => Sys2Proof.Machine.execOra_H s
  | .ora_L => Sys2Proof.Machine.execOra_L s
  | .ora_M => Sys2Proof.Machine.execOra_M s
  | .ora_A => Sys2Proof.Machine.execOra_A s
  | .cmp_B => Sys2Proof.Machine.execCmp_B s
  | .cmp_C => Sys2Proof.Machine.execCmp_C s
  | .cmp_D => Sys2Proof.Machine.execCmp_D s
  | .cmp_E => Sys2Proof.Machine.execCmp_E s
  | .cmp_H => Sys2Proof.Machine.execCmp_H s
  | .cmp_L => Sys2Proof.Machine.execCmp_L s
  | .cmp_M => Sys2Proof.Machine.execCmp_M s
  | .cmp_A => Sys2Proof.Machine.execCmp_A s
  | .rnz => Sys2Proof.Machine.execRnz s
  | .pop_B => Sys2Proof.Machine.execPop_B s
  | .jnz a16 => Sys2Proof.Machine.execJnz a16 s
  | .jmp a16 => Sys2Proof.Machine.execJmp a16 s
  | .cnz a16 => Sys2Proof.Machine.execCnz a16 s
  | .push_B => Sys2Proof.Machine.execPush_B s
  | .adi d8 => Sys2Proof.Machine.execAdi d8 s
  | .rst_0 => Sys2Proof.Machine.execRst_0 s
  | .rz => Sys2Proof.Machine.execRz s
  | .ret => Sys2Proof.Machine.execRet s
  | .jz a16 => Sys2Proof.Machine.execJz a16 s
  | .cz a16 => Sys2Proof.Machine.execCz a16 s
  | .call a16 => Sys2Proof.Machine.execCall a16 s
  | .aci d8 => Sys2Proof.Machine.execAci d8 s
  | .rst_1 => Sys2Proof.Machine.execRst_1 s
  | .rnc => Sys2Proof.Machine.execRnc s
  | .pop_D => Sys2Proof.Machine.execPop_D s
  | .jnc a16 => Sys2Proof.Machine.execJnc a16 s
  | .out d8 => Sys2Proof.Machine.execOut d8 s
  | .cnc a16 => Sys2Proof.Machine.execCnc a16 s
  | .push_D => Sys2Proof.Machine.execPush_D s
  | .sui d8 => Sys2Proof.Machine.execSui d8 s
  | .rst_2 => Sys2Proof.Machine.execRst_2 s
  | .rc => Sys2Proof.Machine.execRc s
  | .jc a16 => Sys2Proof.Machine.execJc a16 s
  | .inp d8 => Sys2Proof.Machine.execInp d8 s
  | .cc a16 => Sys2Proof.Machine.execCc a16 s
  | .sbi d8 => Sys2Proof.Machine.execSbi d8 s
  | .rst_3 => Sys2Proof.Machine.execRst_3 s
  | .rpo => Sys2Proof.Machine.execRpo s
  | .pop_H => Sys2Proof.Machine.execPop_H s
  | .jpo a16 => Sys2Proof.Machine.execJpo a16 s
  | .xthl => Sys2Proof.Machine.execXthl s
  | .cpo a16 => Sys2Proof.Machine.execCpo a16 s
  | .push_H => Sys2Proof.Machine.execPush_H s
  | .ani d8 => Sys2Proof.Machine.execAni d8 s
  | .rst_4 => Sys2Proof.Machine.execRst_4 s
  | .rpe => Sys2Proof.Machine.execRpe s
  | .pchl => Sys2Proof.Machine.execPchl s
  | .jpe a16 => Sys2Proof.Machine.execJpe a16 s
  | .xchg => Sys2Proof.Machine.execXchg s
  | .cpe a16 => Sys2Proof.Machine.execCpe a16 s
  | .xri d8 => Sys2Proof.Machine.execXri d8 s
  | .rst_5 => Sys2Proof.Machine.execRst_5 s
  | .rp => Sys2Proof.Machine.execRp s
  | .pop_PSW => Sys2Proof.Machine.execPop_PSW s
  | .jp a16 => Sys2Proof.Machine.execJp a16 s
  | .di => Sys2Proof.Machine.execDi s
  | .cp a16 => Sys2Proof.Machine.execCp a16 s
  | .push_PSW => Sys2Proof.Machine.execPush_PSW s
  | .ori d8 => Sys2Proof.Machine.execOri d8 s
  | .rst_6 => Sys2Proof.Machine.execRst_6 s
  | .rm => Sys2Proof.Machine.execRm s
  | .sphl => Sys2Proof.Machine.execSphl s
  | .jm a16 => Sys2Proof.Machine.execJm a16 s
  | .ei => Sys2Proof.Machine.execEi s
  | .cm a16 => Sys2Proof.Machine.execCm a16 s
  | .cpi d8 => Sys2Proof.Machine.execCpi d8 s
  | .rst_7 => Sys2Proof.Machine.execRst_7 s
  | .unrecognized op => Sys2Proof.Machine.execUnrecognized op s

end Sys2Proof.Machine
end

