-- ==== Sys2Proof/Decode.lean ====
section
/-! DEFINITION. The decoder, total on every byte string and rejecting by name, and after it the encoder written from
the same tables (30_encoding.md). The byte values and field positions are PRESUMED (the spec's D3, log 9).
Both take the byte that is `QUIT` as an argument, the parameter `QUIT_OPCODE`. -/

namespace Sys2Proof

/-- One cell of the opcode map: the instruction format, with how its operand becomes the instruction (R61). -/
inductive Entry where
  /-- No instruction of the Intel map (R68). -/
  | none
  /-- Format F1: the opcode byte alone. -/
  | one (i : Instr)
  /-- Format F2: one operand byte `d8`. -/
  | two (build : Byte → Instr)
  /-- Format F3: two operand bytes, low byte first. -/
  | three (build : Word → Instr)

/-- Why a byte string is not decoded. -/
inductive DecodeError where
  /-- There is no first byte. -/
  | empty
  /-- The opcode byte needs more operand bytes than there are. -/
  | truncated (op : Byte)
  deriving DecidableEq, Repr

/-- Row 0x of the opcode map (R66). -/
def opcodeRow0 : List Entry :=
  [.one .nop, .three .lxi_B, .one .stax_B, .one .inx_B,
   .one .inr_B, .one .dcr_B, .two .mvi_B, .one .rlc,
   .none, .one .dad_B, .one .ldax_B, .one .dcx_B,
   .one .inr_C, .one .dcr_C, .two .mvi_C, .one .rrc]

/-- Row 1x of the opcode map (R66). -/
def opcodeRow1 : List Entry :=
  [.none, .three .lxi_D, .one .stax_D, .one .inx_D,
   .one .inr_D, .one .dcr_D, .two .mvi_D, .one .ral,
   .none, .one .dad_D, .one .ldax_D, .one .dcx_D,
   .one .inr_E, .one .dcr_E, .two .mvi_E, .one .rar]

/-- Row 2x of the opcode map (R66). -/
def opcodeRow2 : List Entry :=
  [.none, .three .lxi_H, .three .shld, .one .inx_H,
   .one .inr_H, .one .dcr_H, .two .mvi_H, .one .daa,
   .none, .one .dad_H, .three .lhld, .one .dcx_H,
   .one .inr_L, .one .dcr_L, .two .mvi_L, .one .cma]

/-- Row 3x of the opcode map (R66). -/
def opcodeRow3 : List Entry :=
  [.none, .three .lxi_SP, .three .sta, .one .inx_SP,
   .one .inr_M, .one .dcr_M, .two .mvi_M, .one .stc,
   .none, .one .dad_SP, .three .lda, .one .dcx_SP,
   .one .inr_A, .one .dcr_A, .two .mvi_A, .one .cmc]

/-- Row 4x of the opcode map (R66). -/
def opcodeRow4 : List Entry :=
  [.one .mov_B_B, .one .mov_B_C, .one .mov_B_D, .one .mov_B_E,
   .one .mov_B_H, .one .mov_B_L, .one .mov_B_M, .one .mov_B_A,
   .one .mov_C_B, .one .mov_C_C, .one .mov_C_D, .one .mov_C_E,
   .one .mov_C_H, .one .mov_C_L, .one .mov_C_M, .one .mov_C_A]

/-- Row 5x of the opcode map (R66). -/
def opcodeRow5 : List Entry :=
  [.one .mov_D_B, .one .mov_D_C, .one .mov_D_D, .one .mov_D_E,
   .one .mov_D_H, .one .mov_D_L, .one .mov_D_M, .one .mov_D_A,
   .one .mov_E_B, .one .mov_E_C, .one .mov_E_D, .one .mov_E_E,
   .one .mov_E_H, .one .mov_E_L, .one .mov_E_M, .one .mov_E_A]

/-- Row 6x of the opcode map (R66). -/
def opcodeRow6 : List Entry :=
  [.one .mov_H_B, .one .mov_H_C, .one .mov_H_D, .one .mov_H_E,
   .one .mov_H_H, .one .mov_H_L, .one .mov_H_M, .one .mov_H_A,
   .one .mov_L_B, .one .mov_L_C, .one .mov_L_D, .one .mov_L_E,
   .one .mov_L_H, .one .mov_L_L, .one .mov_L_M, .one .mov_L_A]

/-- Row 7x of the opcode map (R66). -/
def opcodeRow7 : List Entry :=
  [.one .mov_M_B, .one .mov_M_C, .one .mov_M_D, .one .mov_M_E,
   .one .mov_M_H, .one .mov_M_L, .one .hlt, .one .mov_M_A,
   .one .mov_A_B, .one .mov_A_C, .one .mov_A_D, .one .mov_A_E,
   .one .mov_A_H, .one .mov_A_L, .one .mov_A_M, .one .mov_A_A]

/-- Row 8x of the opcode map (R66). -/
def opcodeRow8 : List Entry :=
  [.one .add_B, .one .add_C, .one .add_D, .one .add_E,
   .one .add_H, .one .add_L, .one .add_M, .one .add_A,
   .one .adc_B, .one .adc_C, .one .adc_D, .one .adc_E,
   .one .adc_H, .one .adc_L, .one .adc_M, .one .adc_A]

/-- Row 9x of the opcode map (R66). -/
def opcodeRow9 : List Entry :=
  [.one .sub_B, .one .sub_C, .one .sub_D, .one .sub_E,
   .one .sub_H, .one .sub_L, .one .sub_M, .one .sub_A,
   .one .sbb_B, .one .sbb_C, .one .sbb_D, .one .sbb_E,
   .one .sbb_H, .one .sbb_L, .one .sbb_M, .one .sbb_A]

/-- Row Ax of the opcode map (R66). -/
def opcodeRowA : List Entry :=
  [.one .ana_B, .one .ana_C, .one .ana_D, .one .ana_E,
   .one .ana_H, .one .ana_L, .one .ana_M, .one .ana_A,
   .one .xra_B, .one .xra_C, .one .xra_D, .one .xra_E,
   .one .xra_H, .one .xra_L, .one .xra_M, .one .xra_A]

/-- Row Bx of the opcode map (R66). -/
def opcodeRowB : List Entry :=
  [.one .ora_B, .one .ora_C, .one .ora_D, .one .ora_E,
   .one .ora_H, .one .ora_L, .one .ora_M, .one .ora_A,
   .one .cmp_B, .one .cmp_C, .one .cmp_D, .one .cmp_E,
   .one .cmp_H, .one .cmp_L, .one .cmp_M, .one .cmp_A]

/-- Row Cx of the opcode map (R66). -/
def opcodeRowC : List Entry :=
  [.one .rnz, .one .pop_B, .three .jnz, .three .jmp,
   .three .cnz, .one .push_B, .two .adi, .one .rst_0,
   .one .rz, .one .ret, .three .jz, .none,
   .three .cz, .three .call, .two .aci, .one .rst_1]

/-- Row Dx of the opcode map (R66). -/
def opcodeRowD : List Entry :=
  [.one .rnc, .one .pop_D, .three .jnc, .two .out,
   .three .cnc, .one .push_D, .two .sui, .one .rst_2,
   .one .rc, .none, .three .jc, .two .inp,
   .three .cc, .none, .two .sbi, .one .rst_3]

/-- Row Ex of the opcode map (R66). -/
def opcodeRowE : List Entry :=
  [.one .rpo, .one .pop_H, .three .jpo, .one .xthl,
   .three .cpo, .one .push_H, .two .ani, .one .rst_4,
   .one .rpe, .one .pchl, .three .jpe, .one .xchg,
   .three .cpe, .none, .two .xri, .one .rst_5]

/-- Row Fx of the opcode map (R66). -/
def opcodeRowF : List Entry :=
  [.one .rp, .one .pop_PSW, .three .jp, .one .di,
   .three .cp, .one .push_PSW, .two .ori, .one .rst_6,
   .one .rm, .one .sphl, .three .jm, .one .ei,
   .three .cm, .none, .two .cpi, .one .rst_7]

/-- The opcode map by rows of 16 (R66). The place of `QUIT` is left open here. -/
def opcodeMap : List (List Entry) :=
  [opcodeRow0, opcodeRow1, opcodeRow2, opcodeRow3, opcodeRow4, opcodeRow5, opcodeRow6, opcodeRow7,
   opcodeRow8, opcodeRow9, opcodeRowA, opcodeRowB, opcodeRowC, opcodeRowD, opcodeRowE, opcodeRowF]

/-- The twelve byte values that have no Intel 8080 instruction (R68). -/
def freeOpcodes : List Byte :=
  [0x08, 0x10, 0x18, 0x20, 0x28, 0x30, 0x38, 0xCB, 0xD9, 0xDD, 0xED, 0xFD]

/-- What an opcode byte is: `QUIT` at the parameter's byte, otherwise the map's cell (R66, R68, R70). -/
def entryOf (quit op : Byte) : Entry :=
  if op = quit ∧ quit ∈ freeOpcodes then .one .quit
  else ((opcodeMap[op.toNat / 16]?).bind (fun row => row[op.toNat % 16]?)).getD .none

/-- The length of an instruction, a function of its opcode byte alone (R60, R64). An unrecognised byte has no length
(R64); the 1 here is the model's own: DESIGN CHOICE (log 25). -/
def Entry.length : Entry → Nat
  | .none => 1
  | .one _ => 1
  | .two _ => 2
  | .three _ => 3

/-- Decodes an opcode byte `op` with the two bytes that follow it, using as many as its format has (R63, R70). -/
def decode3 (quit op b1 b2 : Byte) : Instr :=
  match entryOf quit op with
  | .none => .unrecognized op
  | .one i => i
  | .two build => build b1
  | .three build => build (joinBytes b2 b1)

/-- Decodes the first instruction of a byte string and gives the rest of the string. -/
def decodeBytes (quit : Byte) : List Byte → Except DecodeError (Instr × List Byte)
  | [] => .error .empty
  | op :: rest =>
    match entryOf quit op, rest with
    | .none, rest => .ok (.unrecognized op, rest)
    | .one i, rest => .ok (i, rest)
    | .two build, b1 :: rest => .ok (build b1, rest)
    | .three build, b1 :: b2 :: rest => .ok (build (joinBytes b2 b1), rest)
    | .two _, [] => .error (.truncated op)
    | .three _, [] => .error (.truncated op)
    | .three _, [_] => .error (.truncated op)

/-! ### The encoder -/

/-- The opcode byte of an instruction (R66). -/
def opcodeOf (quit : Byte) : Instr → Byte
  | .nop => 0x00
  | .lxi_B _ => 0x01
  | .stax_B => 0x02
  | .inx_B => 0x03
  | .inr_B => 0x04
  | .dcr_B => 0x05
  | .mvi_B _ => 0x06
  | .rlc => 0x07
  | .quit => quit
  | .dad_B => 0x09
  | .ldax_B => 0x0A
  | .dcx_B => 0x0B
  | .inr_C => 0x0C
  | .dcr_C => 0x0D
  | .mvi_C _ => 0x0E
  | .rrc => 0x0F
  | .lxi_D _ => 0x11
  | .stax_D => 0x12
  | .inx_D => 0x13
  | .inr_D => 0x14
  | .dcr_D => 0x15
  | .mvi_D _ => 0x16
  | .ral => 0x17
  | .dad_D => 0x19
  | .ldax_D => 0x1A
  | .dcx_D => 0x1B
  | .inr_E => 0x1C
  | .dcr_E => 0x1D
  | .mvi_E _ => 0x1E
  | .rar => 0x1F
  | .lxi_H _ => 0x21
  | .shld _ => 0x22
  | .inx_H => 0x23
  | .inr_H => 0x24
  | .dcr_H => 0x25
  | .mvi_H _ => 0x26
  | .daa => 0x27
  | .dad_H => 0x29
  | .lhld _ => 0x2A
  | .dcx_H => 0x2B
  | .inr_L => 0x2C
  | .dcr_L => 0x2D
  | .mvi_L _ => 0x2E
  | .cma => 0x2F
  | .lxi_SP _ => 0x31
  | .sta _ => 0x32
  | .inx_SP => 0x33
  | .inr_M => 0x34
  | .dcr_M => 0x35
  | .mvi_M _ => 0x36
  | .stc => 0x37
  | .dad_SP => 0x39
  | .lda _ => 0x3A
  | .dcx_SP => 0x3B
  | .inr_A => 0x3C
  | .dcr_A => 0x3D
  | .mvi_A _ => 0x3E
  | .cmc => 0x3F
  | .mov_B_B => 0x40
  | .mov_B_C => 0x41
  | .mov_B_D => 0x42
  | .mov_B_E => 0x43
  | .mov_B_H => 0x44
  | .mov_B_L => 0x45
  | .mov_B_M => 0x46
  | .mov_B_A => 0x47
  | .mov_C_B => 0x48
  | .mov_C_C => 0x49
  | .mov_C_D => 0x4A
  | .mov_C_E => 0x4B
  | .mov_C_H => 0x4C
  | .mov_C_L => 0x4D
  | .mov_C_M => 0x4E
  | .mov_C_A => 0x4F
  | .mov_D_B => 0x50
  | .mov_D_C => 0x51
  | .mov_D_D => 0x52
  | .mov_D_E => 0x53
  | .mov_D_H => 0x54
  | .mov_D_L => 0x55
  | .mov_D_M => 0x56
  | .mov_D_A => 0x57
  | .mov_E_B => 0x58
  | .mov_E_C => 0x59
  | .mov_E_D => 0x5A
  | .mov_E_E => 0x5B
  | .mov_E_H => 0x5C
  | .mov_E_L => 0x5D
  | .mov_E_M => 0x5E
  | .mov_E_A => 0x5F
  | .mov_H_B => 0x60
  | .mov_H_C => 0x61
  | .mov_H_D => 0x62
  | .mov_H_E => 0x63
  | .mov_H_H => 0x64
  | .mov_H_L => 0x65
  | .mov_H_M => 0x66
  | .mov_H_A => 0x67
  | .mov_L_B => 0x68
  | .mov_L_C => 0x69
  | .mov_L_D => 0x6A
  | .mov_L_E => 0x6B
  | .mov_L_H => 0x6C
  | .mov_L_L => 0x6D
  | .mov_L_M => 0x6E
  | .mov_L_A => 0x6F
  | .mov_M_B => 0x70
  | .mov_M_C => 0x71
  | .mov_M_D => 0x72
  | .mov_M_E => 0x73
  | .mov_M_H => 0x74
  | .mov_M_L => 0x75
  | .hlt => 0x76
  | .mov_M_A => 0x77
  | .mov_A_B => 0x78
  | .mov_A_C => 0x79
  | .mov_A_D => 0x7A
  | .mov_A_E => 0x7B
  | .mov_A_H => 0x7C
  | .mov_A_L => 0x7D
  | .mov_A_M => 0x7E
  | .mov_A_A => 0x7F
  | .add_B => 0x80
  | .add_C => 0x81
  | .add_D => 0x82
  | .add_E => 0x83
  | .add_H => 0x84
  | .add_L => 0x85
  | .add_M => 0x86
  | .add_A => 0x87
  | .adc_B => 0x88
  | .adc_C => 0x89
  | .adc_D => 0x8A
  | .adc_E => 0x8B
  | .adc_H => 0x8C
  | .adc_L => 0x8D
  | .adc_M => 0x8E
  | .adc_A => 0x8F
  | .sub_B => 0x90
  | .sub_C => 0x91
  | .sub_D => 0x92
  | .sub_E => 0x93
  | .sub_H => 0x94
  | .sub_L => 0x95
  | .sub_M => 0x96
  | .sub_A => 0x97
  | .sbb_B => 0x98
  | .sbb_C => 0x99
  | .sbb_D => 0x9A
  | .sbb_E => 0x9B
  | .sbb_H => 0x9C
  | .sbb_L => 0x9D
  | .sbb_M => 0x9E
  | .sbb_A => 0x9F
  | .ana_B => 0xA0
  | .ana_C => 0xA1
  | .ana_D => 0xA2
  | .ana_E => 0xA3
  | .ana_H => 0xA4
  | .ana_L => 0xA5
  | .ana_M => 0xA6
  | .ana_A => 0xA7
  | .xra_B => 0xA8
  | .xra_C => 0xA9
  | .xra_D => 0xAA
  | .xra_E => 0xAB
  | .xra_H => 0xAC
  | .xra_L => 0xAD
  | .xra_M => 0xAE
  | .xra_A => 0xAF
  | .ora_B => 0xB0
  | .ora_C => 0xB1
  | .ora_D => 0xB2
  | .ora_E => 0xB3
  | .ora_H => 0xB4
  | .ora_L => 0xB5
  | .ora_M => 0xB6
  | .ora_A => 0xB7
  | .cmp_B => 0xB8
  | .cmp_C => 0xB9
  | .cmp_D => 0xBA
  | .cmp_E => 0xBB
  | .cmp_H => 0xBC
  | .cmp_L => 0xBD
  | .cmp_M => 0xBE
  | .cmp_A => 0xBF
  | .rnz => 0xC0
  | .pop_B => 0xC1
  | .jnz _ => 0xC2
  | .jmp _ => 0xC3
  | .cnz _ => 0xC4
  | .push_B => 0xC5
  | .adi _ => 0xC6
  | .rst_0 => 0xC7
  | .rz => 0xC8
  | .ret => 0xC9
  | .jz _ => 0xCA
  | .cz _ => 0xCC
  | .call _ => 0xCD
  | .aci _ => 0xCE
  | .rst_1 => 0xCF
  | .rnc => 0xD0
  | .pop_D => 0xD1
  | .jnc _ => 0xD2
  | .out _ => 0xD3
  | .cnc _ => 0xD4
  | .push_D => 0xD5
  | .sui _ => 0xD6
  | .rst_2 => 0xD7
  | .rc => 0xD8
  | .jc _ => 0xDA
  | .inp _ => 0xDB
  | .cc _ => 0xDC
  | .sbi _ => 0xDE
  | .rst_3 => 0xDF
  | .rpo => 0xE0
  | .pop_H => 0xE1
  | .jpo _ => 0xE2
  | .xthl => 0xE3
  | .cpo _ => 0xE4
  | .push_H => 0xE5
  | .ani _ => 0xE6
  | .rst_4 => 0xE7
  | .rpe => 0xE8
  | .pchl => 0xE9
  | .jpe _ => 0xEA
  | .xchg => 0xEB
  | .cpe _ => 0xEC
  | .xri _ => 0xEE
  | .rst_5 => 0xEF
  | .rp => 0xF0
  | .pop_PSW => 0xF1
  | .jp _ => 0xF2
  | .di => 0xF3
  | .cp _ => 0xF4
  | .push_PSW => 0xF5
  | .ori _ => 0xF6
  | .rst_6 => 0xF7
  | .rm => 0xF8
  | .sphl => 0xF9
  | .jm _ => 0xFA
  | .ei => 0xFB
  | .cm _ => 0xFC
  | .cpi _ => 0xFE
  | .rst_7 => 0xFF
  | .unrecognized op => op

/-- The operand bytes of an instruction, low byte first (R61, R63). -/
def operandBytes : Instr → List Byte
  | .lxi_B d16 => [loByte d16, hiByte d16]
  | .mvi_B d8 => [d8]
  | .mvi_C d8 => [d8]
  | .lxi_D d16 => [loByte d16, hiByte d16]
  | .mvi_D d8 => [d8]
  | .mvi_E d8 => [d8]
  | .lxi_H d16 => [loByte d16, hiByte d16]
  | .shld a16 => [loByte a16, hiByte a16]
  | .mvi_H d8 => [d8]
  | .lhld a16 => [loByte a16, hiByte a16]
  | .mvi_L d8 => [d8]
  | .lxi_SP d16 => [loByte d16, hiByte d16]
  | .sta a16 => [loByte a16, hiByte a16]
  | .mvi_M d8 => [d8]
  | .lda a16 => [loByte a16, hiByte a16]
  | .mvi_A d8 => [d8]
  | .jnz a16 => [loByte a16, hiByte a16]
  | .jmp a16 => [loByte a16, hiByte a16]
  | .cnz a16 => [loByte a16, hiByte a16]
  | .adi d8 => [d8]
  | .jz a16 => [loByte a16, hiByte a16]
  | .cz a16 => [loByte a16, hiByte a16]
  | .call a16 => [loByte a16, hiByte a16]
  | .aci d8 => [d8]
  | .jnc a16 => [loByte a16, hiByte a16]
  | .out d8 => [d8]
  | .cnc a16 => [loByte a16, hiByte a16]
  | .sui d8 => [d8]
  | .jc a16 => [loByte a16, hiByte a16]
  | .inp d8 => [d8]
  | .cc a16 => [loByte a16, hiByte a16]
  | .sbi d8 => [d8]
  | .jpo a16 => [loByte a16, hiByte a16]
  | .cpo a16 => [loByte a16, hiByte a16]
  | .ani d8 => [d8]
  | .jpe a16 => [loByte a16, hiByte a16]
  | .cpe a16 => [loByte a16, hiByte a16]
  | .xri d8 => [d8]
  | .jp a16 => [loByte a16, hiByte a16]
  | .cp a16 => [loByte a16, hiByte a16]
  | .ori d8 => [d8]
  | .jm a16 => [loByte a16, hiByte a16]
  | .cm a16 => [loByte a16, hiByte a16]
  | .cpi d8 => [d8]
  | .nop | .stax_B | .inx_B | .inr_B | .dcr_B | .rlc | .quit | .dad_B | .ldax_B | .dcx_B | .inr_C | .dcr_C |
    .rrc | .stax_D | .inx_D | .inr_D | .dcr_D | .ral | .dad_D | .ldax_D | .dcx_D | .inr_E | .dcr_E | .rar |
    .inx_H | .inr_H | .dcr_H | .daa | .dad_H | .dcx_H | .inr_L | .dcr_L | .cma | .inx_SP | .inr_M | .dcr_M |
    .stc | .dad_SP | .dcx_SP | .inr_A | .dcr_A | .cmc | .mov_B_B | .mov_B_C | .mov_B_D | .mov_B_E | .mov_B_H
    | .mov_B_L | .mov_B_M | .mov_B_A | .mov_C_B | .mov_C_C | .mov_C_D | .mov_C_E | .mov_C_H | .mov_C_L |
    .mov_C_M | .mov_C_A | .mov_D_B | .mov_D_C | .mov_D_D | .mov_D_E | .mov_D_H | .mov_D_L | .mov_D_M |
    .mov_D_A | .mov_E_B | .mov_E_C | .mov_E_D | .mov_E_E | .mov_E_H | .mov_E_L | .mov_E_M | .mov_E_A |
    .mov_H_B | .mov_H_C | .mov_H_D | .mov_H_E | .mov_H_H | .mov_H_L | .mov_H_M | .mov_H_A | .mov_L_B |
    .mov_L_C | .mov_L_D | .mov_L_E | .mov_L_H | .mov_L_L | .mov_L_M | .mov_L_A | .mov_M_B | .mov_M_C |
    .mov_M_D | .mov_M_E | .mov_M_H | .mov_M_L | .hlt | .mov_M_A | .mov_A_B | .mov_A_C | .mov_A_D | .mov_A_E
    | .mov_A_H | .mov_A_L | .mov_A_M | .mov_A_A | .add_B | .add_C | .add_D | .add_E | .add_H | .add_L |
    .add_M | .add_A | .adc_B | .adc_C | .adc_D | .adc_E | .adc_H | .adc_L | .adc_M | .adc_A | .sub_B |
    .sub_C | .sub_D | .sub_E | .sub_H | .sub_L | .sub_M | .sub_A | .sbb_B | .sbb_C | .sbb_D | .sbb_E |
    .sbb_H | .sbb_L | .sbb_M | .sbb_A | .ana_B | .ana_C | .ana_D | .ana_E | .ana_H | .ana_L | .ana_M |
    .ana_A | .xra_B | .xra_C | .xra_D | .xra_E | .xra_H | .xra_L | .xra_M | .xra_A | .ora_B | .ora_C |
    .ora_D | .ora_E | .ora_H | .ora_L | .ora_M | .ora_A | .cmp_B | .cmp_C | .cmp_D | .cmp_E | .cmp_H |
    .cmp_L | .cmp_M | .cmp_A | .rnz | .pop_B | .push_B | .rst_0 | .rz | .ret | .rst_1 | .rnc | .pop_D |
    .push_D | .rst_2 | .rc | .rst_3 | .rpo | .pop_H | .xthl | .push_H | .rst_4 | .rpe | .pchl | .xchg |
    .rst_5 | .rp | .pop_PSW | .di | .push_PSW | .rst_6 | .rm | .sphl | .ei | .rst_7 | .unrecognized _ => []

/-- The bytes of an instruction in the order they stand in memory (R61). -/
def encode (quit : Byte) (i : Instr) : List Byte := opcodeOf quit i :: operandBytes i

/-! ### Words numbered as the opcode table numbers them -/

/-- Byte `k` of a number whose bit 0 is the least significant bit of byte 0. -/
def tableByte (w k : Nat) : Byte := BitVec.ofNat 8 (w / 256 ^ k)

/-- The instruction of an `nbits`-bit word of the opcode table; the bits above `nbits` are 0. -/
def decodeTableWord (nbits w : Nat) : Option Instr :=
  let v := w % 2 ^ max nbits 8
  match decodeBytes Config.quitOpcode [tableByte v 0, tableByte v 1, tableByte v 2] with
  | .ok (i, _) => some i
  | .error _ => none

end Sys2Proof
end

