-- ==== Sys2Proof/Machine/Fetch.lean ====
section
/-! DEFINITION. Fetching: the opcode byte at the program counter, its immediate operands, and the instruction they
decode to. Fetch reads the memory that stores write, at every step (R52). -/

namespace Sys2Proof.Machine

/-- The opcode byte of the next instruction (R200). -/
def State.opcode (s : State) : Byte := s.memRead s.pc

/-- `imm8`, the byte at `(PC+1) mod 65536` (R63). -/
def State.imm8 (s : State) : Byte := s.memRead (s.pc + 1)

/-- `imm16`, low byte at `PC+1`, high byte at `PC+2` (R63). -/
def State.imm16 (s : State) : Word := joinBytes (s.memRead (s.pc + 2)) (s.memRead (s.pc + 1))

/-- The instruction at the program counter. The two bytes after the opcode are read whether the format has them or
not (DEDUCED, log 21): a read has no side effect (R46), and `decode3` uses only those the format has. -/
def State.fetch (s : State) (quit : Byte) : Instr :=
  decode3 quit s.opcode s.imm8 (s.memRead (s.pc + 2))

/-- The bytes of a number of the opcode table stored from an address on, three of them. -/
def State.placeBytes (s : State) (addr : Word) (w : Nat) : State :=
  ((s.memWrite addr (tableByte w 0)).memWrite (addr + 1) (tableByte w 1)).memWrite (addr + 2) (tableByte w 2)

/-- The machine made ready to fetch: no fault latched, not stopped, not halted, no interrupt latched (R200). -/
def State.readyToFetch (s : State) : State :=
  { s with fault := none, stopped := false, halted := false, latch := none }

end Sys2Proof.Machine
end

