-- ==== Sys2Proof/Machine/Step.lean ====
section
/-! DEFINITION. One step of the core (R200). -/

namespace Sys2Proof.Machine

/-- Executes the instruction at the program counter and charges its cost (R200). -/
def runInstr (p : Parameters) (s : State) : Out :=
  match exec (s.fetch p.quitOpcode) s with
  | .next t => .next (charge (cycleCost p s.opcode s) t)
  | .fault r => .fault r
  | .refused r => .refused r

/-- `Step` for any values of the parameters: the tests in the order of R200 (R207). A stopped or halted step changes
nothing: DESIGN CHOICE (the spec's D20 and D26, log 17). -/
def stepWith (p : Parameters) (s : State) : Out :=
  match s.fault with
  | some r => .fault r
  | none =>
    if s.stopped then .next s
    else if s.halted then .next s
    else
      match s.latch with
      | some target => .next (s.serviceInterrupt p.intCost target)
      | none => runInstr p s

/-- `Step` with the working values of the parameters (R200). -/
def step (s : State) : Host.Outcome State Fault Refusal := stepWith workingParameters s

/-- The state with the instruction of an opcode-table word stored at the program counter, and nothing standing
before the fetch: the next step runs that instruction. It stands for a load from outside: DEDUCED (log 8). -/
def State.withFetchWord (s : State) (nbits w : Nat) : State :=
  s.readyToFetch.placeBytes s.pc (w % 2 ^ max nbits 8)

end Sys2Proof.Machine
end

