-- ==== Sys2Proof/Machine/Families.lean ====
section
/-! DEFINITION. The instruction families: the constructors of `Instr` found by their operands, and the codes of the
operands in the opcode byte (R12, R13, R62, R67). Statements range over families; the machine does not use them. -/

namespace Sys2Proof

/-- The 3-bit code of a register (R12). -/
def Reg.code : Reg → Nat
  | .b => 0
  | .c => 1
  | .d => 2
  | .e => 3
  | .h => 4
  | .l => 5
  | .a => 7

/-- The 3-bit code of an operand; `M` is 6 (R12). -/
def Operand.code : Operand → Nat
  | .reg r => r.code
  | .m => 6

/-- The 2-bit code of a register pair (R13). -/
def Pair.code : Pair → Nat
  | .bc => 0
  | .de => 1
  | .hl => 2

/-- The 2-bit pair code where 3 is the stack pointer (R13). -/
def PairSp.code : PairSp → Nat
  | .pair p => p.code
  | .sp => 3

/-- The 2-bit pair code where 3 is the accumulator and the flags (R13). -/
def PairPsw.code : PairPsw → Nat
  | .pair p => p.code
  | .psw => 3

/-- The pair bit of `LDAX` and `STAX` (R62). -/
def AccPair.code : AccPair → Nat
  | .bc => 0
  | .de => 1

/-- The 3-bit condition code (R67). -/
def Cond.code : Cond → Nat
  | .nz => 0
  | .z => 1
  | .nc => 2
  | .c => 3
  | .po => 4
  | .pe => 5
  | .p => 6
  | .m => 7

/-- The 3-bit code of an accumulator operation (R62). -/
def AluOp.code : AluOp → Nat
  | .add => 0
  | .adc => 1
  | .sub => 2
  | .sbb => 3
  | .ana => 4
  | .xra => 5
  | .ora => 6
  | .cmp => 7

/-- `MOV r1,r2`, destination first (R130). -/
def Instr.movRegReg : Reg → Reg → Instr
  | .b, .b => .mov_B_B
  | .b, .c => .mov_B_C
  | .b, .d => .mov_B_D
  | .b, .e => .mov_B_E
  | .b, .h => .mov_B_H
  | .b, .l => .mov_B_L
  | .b, .a => .mov_B_A
  | .c, .b => .mov_C_B
  | .c, .c => .mov_C_C
  | .c, .d => .mov_C_D
  | .c, .e => .mov_C_E
  | .c, .h => .mov_C_H
  | .c, .l => .mov_C_L
  | .c, .a => .mov_C_A
  | .d, .b => .mov_D_B
  | .d, .c => .mov_D_C
  | .d, .d => .mov_D_D
  | .d, .e => .mov_D_E
  | .d, .h => .mov_D_H
  | .d, .l => .mov_D_L
  | .d, .a => .mov_D_A
  | .e, .b => .mov_E_B
  | .e, .c => .mov_E_C
  | .e, .d => .mov_E_D
  | .e, .e => .mov_E_E
  | .e, .h => .mov_E_H
  | .e, .l => .mov_E_L
  | .e, .a => .mov_E_A
  | .h, .b => .mov_H_B
  | .h, .c => .mov_H_C
  | .h, .d => .mov_H_D
  | .h, .e => .mov_H_E
  | .h, .h => .mov_H_H
  | .h, .l => .mov_H_L
  | .h, .a => .mov_H_A
  | .l, .b => .mov_L_B
  | .l, .c => .mov_L_C
  | .l, .d => .mov_L_D
  | .l, .e => .mov_L_E
  | .l, .h => .mov_L_H
  | .l, .l => .mov_L_L
  | .l, .a => .mov_L_A
  | .a, .b => .mov_A_B
  | .a, .c => .mov_A_C
  | .a, .d => .mov_A_D
  | .a, .e => .mov_A_E
  | .a, .h => .mov_A_H
  | .a, .l => .mov_A_L
  | .a, .a => .mov_A_A

/-- `MOV r,M` (R131). -/
def Instr.movRegM : Reg → Instr
  | .b => .mov_B_M
  | .c => .mov_C_M
  | .d => .mov_D_M
  | .e => .mov_E_M
  | .h => .mov_H_M
  | .l => .mov_L_M
  | .a => .mov_A_M

/-- `MOV M,r` (R132). -/
def Instr.movMReg : Reg → Instr
  | .b => .mov_M_B
  | .c => .mov_M_C
  | .d => .mov_M_D
  | .e => .mov_M_E
  | .h => .mov_M_H
  | .l => .mov_M_L
  | .a => .mov_M_A

/-- The accumulator operations on a register or on `M`. -/
def Instr.alu : AluOp → Operand → Instr
  | .add, .reg .b => .add_B
  | .add, .reg .c => .add_C
  | .add, .reg .d => .add_D
  | .add, .reg .e => .add_E
  | .add, .reg .h => .add_H
  | .add, .reg .l => .add_L
  | .add, .m => .add_M
  | .add, .reg .a => .add_A
  | .adc, .reg .b => .adc_B
  | .adc, .reg .c => .adc_C
  | .adc, .reg .d => .adc_D
  | .adc, .reg .e => .adc_E
  | .adc, .reg .h => .adc_H
  | .adc, .reg .l => .adc_L
  | .adc, .m => .adc_M
  | .adc, .reg .a => .adc_A
  | .sub, .reg .b => .sub_B
  | .sub, .reg .c => .sub_C
  | .sub, .reg .d => .sub_D
  | .sub, .reg .e => .sub_E
  | .sub, .reg .h => .sub_H
  | .sub, .reg .l => .sub_L
  | .sub, .m => .sub_M
  | .sub, .reg .a => .sub_A
  | .sbb, .reg .b => .sbb_B
  | .sbb, .reg .c => .sbb_C
  | .sbb, .reg .d => .sbb_D
  | .sbb, .reg .e => .sbb_E
  | .sbb, .reg .h => .sbb_H
  | .sbb, .reg .l => .sbb_L
  | .sbb, .m => .sbb_M
  | .sbb, .reg .a => .sbb_A
  | .ana, .reg .b => .ana_B
  | .ana, .reg .c => .ana_C
  | .ana, .reg .d => .ana_D
  | .ana, .reg .e => .ana_E
  | .ana, .reg .h => .ana_H
  | .ana, .reg .l => .ana_L
  | .ana, .m => .ana_M
  | .ana, .reg .a => .ana_A
  | .xra, .reg .b => .xra_B
  | .xra, .reg .c => .xra_C
  | .xra, .reg .d => .xra_D
  | .xra, .reg .e => .xra_E
  | .xra, .reg .h => .xra_H
  | .xra, .reg .l => .xra_L
  | .xra, .m => .xra_M
  | .xra, .reg .a => .xra_A
  | .ora, .reg .b => .ora_B
  | .ora, .reg .c => .ora_C
  | .ora, .reg .d => .ora_D
  | .ora, .reg .e => .ora_E
  | .ora, .reg .h => .ora_H
  | .ora, .reg .l => .ora_L
  | .ora, .m => .ora_M
  | .ora, .reg .a => .ora_A
  | .cmp, .reg .b => .cmp_B
  | .cmp, .reg .c => .cmp_C
  | .cmp, .reg .d => .cmp_D
  | .cmp, .reg .e => .cmp_E
  | .cmp, .reg .h => .cmp_H
  | .cmp, .reg .l => .cmp_L
  | .cmp, .m => .cmp_M
  | .cmp, .reg .a => .cmp_A

/-- The accumulator operations on an immediate byte. -/
def Instr.aluImm : AluOp → Byte → Instr
  | .add, d8 => .adi d8
  | .adc, d8 => .aci d8
  | .sub, d8 => .sui d8
  | .sbb, d8 => .sbi d8
  | .ana, d8 => .ani d8
  | .xra, d8 => .xri d8
  | .ora, d8 => .ori d8
  | .cmp, d8 => .cpi d8

/-- `INR` on a register or on `M`. -/
def Instr.inr : Operand → Instr
  | .reg .b => .inr_B
  | .reg .c => .inr_C
  | .reg .d => .inr_D
  | .reg .e => .inr_E
  | .reg .h => .inr_H
  | .reg .l => .inr_L
  | .m => .inr_M
  | .reg .a => .inr_A

/-- `DCR` on a register or on `M`. -/
def Instr.dcr : Operand → Instr
  | .reg .b => .dcr_B
  | .reg .c => .dcr_C
  | .reg .d => .dcr_D
  | .reg .e => .dcr_E
  | .reg .h => .dcr_H
  | .reg .l => .dcr_L
  | .m => .dcr_M
  | .reg .a => .dcr_A

/-- `MVI` to a register or to `M` (R133, R134). -/
def Instr.mvi : Operand → Byte → Instr
  | .reg .b, d8 => .mvi_B d8
  | .reg .c, d8 => .mvi_C d8
  | .reg .d, d8 => .mvi_D d8
  | .reg .e, d8 => .mvi_E d8
  | .reg .h, d8 => .mvi_H d8
  | .reg .l, d8 => .mvi_L d8
  | .m, d8 => .mvi_M d8
  | .reg .a, d8 => .mvi_A d8

/-- `LXI` (R135). -/
def Instr.lxi : PairSp → Word → Instr
  | .pair .bc, d16 => .lxi_B d16
  | .pair .de, d16 => .lxi_D d16
  | .pair .hl, d16 => .lxi_H d16
  | .sp, d16 => .lxi_SP d16

/-- `INX` (R101). -/
def Instr.inx : PairSp → Instr
  | .pair .bc => .inx_B
  | .pair .de => .inx_D
  | .pair .hl => .inx_H
  | .sp => .inx_SP

/-- `DCX` (R102). -/
def Instr.dcx : PairSp → Instr
  | .pair .bc => .dcx_B
  | .pair .de => .dcx_D
  | .pair .hl => .dcx_H
  | .sp => .dcx_SP

/-- `DAD` (R103). -/
def Instr.dad : PairSp → Instr
  | .pair .bc => .dad_B
  | .pair .de => .dad_D
  | .pair .hl => .dad_H
  | .sp => .dad_SP

/-- `LDAX` (R136). -/
def Instr.ldax : AccPair → Instr
  | .bc => .ldax_B
  | .de => .ldax_D

/-- `STAX` (R137). -/
def Instr.stax : AccPair → Instr
  | .bc => .stax_B
  | .de => .stax_D

/-- `PUSH` (R152, R153). -/
def Instr.push : PairPsw → Instr
  | .pair .bc => .push_B
  | .pair .de => .push_D
  | .pair .hl => .push_H
  | .psw => .push_PSW

/-- `POP` (R154, R155). -/
def Instr.pop : PairPsw → Instr
  | .pair .bc => .pop_B
  | .pair .de => .pop_D
  | .pair .hl => .pop_H
  | .psw => .pop_PSW

/-- `Jcc` (R162). -/
def Instr.jumpIf : Cond → Word → Instr
  | .nz, a16 => .jnz a16
  | .z, a16 => .jz a16
  | .nc, a16 => .jnc a16
  | .c, a16 => .jc a16
  | .po, a16 => .jpo a16
  | .pe, a16 => .jpe a16
  | .p, a16 => .jp a16
  | .m, a16 => .jm a16

/-- `Ccc` (R164). -/
def Instr.callIf : Cond → Word → Instr
  | .nz, a16 => .cnz a16
  | .z, a16 => .cz a16
  | .nc, a16 => .cnc a16
  | .c, a16 => .cc a16
  | .po, a16 => .cpo a16
  | .pe, a16 => .cpe a16
  | .p, a16 => .cp a16
  | .m, a16 => .cm a16

/-- `Rcc` (R166). -/
def Instr.retIf : Cond → Instr
  | .nz => .rnz
  | .z => .rz
  | .nc => .rnc
  | .c => .rc
  | .po => .rpo
  | .pe => .rpe
  | .p => .rp
  | .m => .rm

/-- `RST n` (R167). -/
def Instr.rst : Fin 8 → Instr
  | 0 => .rst_0
  | 1 => .rst_1
  | 2 => .rst_2
  | 3 => .rst_3
  | 4 => .rst_4
  | 5 => .rst_5
  | 6 => .rst_6
  | 7 => .rst_7

end Sys2Proof
end

