-- ==== Sys2Proof/Machine/HostMoves.lean ====
section
/-! DEFINITION. The host's moves on the state, made only between two steps: reset, loading a program, the interrupt
request, attaching a port handler, the cycle counter (R6, R205, R230 to R235). -/

namespace Sys2Proof.Machine

/-- `IntReq(v)`: refused unless `v` is an `RST` encoding; nothing while `IE` is 0; otherwise accepted (R203 to R205).
DEDUCED (log 7): the vector is looked at before `IE`, and no other field is. -/
def intReq (v : Byte) (s : State) : Out :=
  if isRstVector v then
    if s.ie then .next (s.acceptInterrupt (vectorTarget v)) else .next s
  else .refused (.notRstVector v)

/-- Copies bytes into consecutive cells from an address on. -/
def Memory.copyIn : Memory → Nat → List Byte → Memory
  | m, _, [] => m
  | m, addr, v :: rest => copyIn (m.write addr v) (addr + 1) rest

/-- `Load(image)`: the image to address 0 on, `PC` to 0, `IMAGE_LEN`; nothing else changes (R232).
DESIGN CHOICE (the spec's D23 and D24, log 18). -/
def load (image : List Byte) (s : State) : Out :=
  if image.length ≤ 0x10000 then
    .next { s with mem := s.mem.copyIn 0 image, pc := 0x0000, imageLen := image.length }
  else .refused (.imageTooLong image.length)

/-- `AttachHandler(h)`, replacing any earlier handler (R234). -/
def attachHandler (h : HandlerId) (s : State) : State := { s with portHandler := some h }

/-- `DetachHandler` (R234). -/
def detachHandler (s : State) : State := { s with portHandler := none }

/-- `ReadCycles`: the value; the state does not change (R235). -/
def readCycles (s : State) : Nat := s.cyc

/-- `ResetCycles` (R235). -/
def resetCycles (s : State) : State := { s with cyc := 0 }

/-- The host's moves (R6). -/
inductive HostMove where
  | reset
  | load (image : List Byte)
  | intReq (v : Byte)
  | attachHandler (h : HandlerId)
  | detachHandler
  | readCycles
  | resetCycles
  deriving DecidableEq, Repr

/-- What a host move does to the state, for any values of the parameters (R5): `Reset` sets `IE` to `IE_RESET`
(R231). -/
def hostMoveWith (p : Parameters) (m : HostMove) (s : State) : Out :=
  match m with
  | .reset => .next (State.resetWith p.ieReset)
  | .load image => load image s
  | .intReq v => intReq v s
  | .attachHandler h => .next (attachHandler h s)
  | .detachHandler => .next (detachHandler s)
  | .readCycles => .next s
  | .resetCycles => .next (resetCycles s)

/-- What a host move does to the state, with the working values of the parameters. -/
def hostMove (m : HostMove) (s : State) : Out := hostMoveWith workingParameters m s

end Sys2Proof.Machine
end

