-- ==== Sys2Proof/Machine/Run.lean ====
section
/-! DEFINITION. The host's two ways to run the core: step-mode and the run-mode loop (R237, R238). -/

namespace Sys2Proof.Machine

/-- The core for any values of the parameters (R5). -/
def coreWith (p : Parameters) : Host.Core where
  State := State
  Fault := Fault
  Refusal := Refusal
  step := stepWith p
  reset := State.resetWith p.ieReset

/-- The test of the run-mode loop, made at a boundary before each step (R238). DESIGN CHOICE (the spec's D28,
log 19). -/
def State.runContinues (s : State) : Bool :=
  s.fault.isNone && !s.stopped && !s.halted && decide (s.pc.toNat < s.imageLen)

/-- How a run-mode invocation stands after a number of steps. -/
inductive RunEnd where
  /-- The loop's test failed in this state: the invocation is over. -/
  | ended (s : State)
  /-- The steps allowed were used up; the loop goes on from this state. -/
  | unfinished (s : State)
  deriving DecidableEq, Repr

/-- `Run()` for any values of the parameters, for at most `fuel` steps (R238). The loop itself need not end: DESIGN
CHOICE (log 19). A state that passes the test has no fault latched, so its step answers a next state and the last
two arms are never taken. -/
def runModeWith (p : Parameters) : Nat → State → RunEnd
  | 0, s => if s.runContinues then .unfinished s else .ended s
  | fuel + 1, s =>
    if s.runContinues then
      match stepWith p s with
      | .next t => runModeWith p fuel t
      | .fault _ => .unfinished s
      | .refused _ => .unfinished s
    else .ended s

/-- `Run()` with the working values of the parameters. -/
def runMode (fuel : Nat) (s : State) : RunEnd := runModeWith workingParameters fuel s

/-- What the host sees of one invocation of `processProgram`. -/
inductive Invocation where
  /-- The invocation returned, with this answer. -/
  | returned (answer : Out)
  /-- Run-mode has used up the steps allowed and has not returned; its loop goes on from this state (log 19). -/
  | unfinished (s : State)
  deriving Repr

/-- One invocation of `processProgram` by the host, with its input `STEP_MODE`, for any values of the parameters:
exactly one step, or the loop (R28, R237, R238). -/
def invokeWith (p : Parameters) (stepMode : Bool) (fuel : Nat) (s : State) : Invocation :=
  if stepMode then .returned (stepWith p s)
  else
    match runModeWith p fuel s with
    | .ended t => .returned (.next t)
    | .unfinished t => .unfinished t

/-- One invocation of `processProgram` with the working values of the parameters. -/
def invoke (stepMode : Bool) (fuel : Nat) (s : State) : Invocation := invokeWith workingParameters stepMode fuel s

end Sys2Proof.Machine
end

