-- ==== Sys2Proof/WellFormed.lean ====
section
/-! DEFINITION. Which terms of `Instr` are instructions of the machine. -/

namespace Sys2Proof

/-- A term is well-formed unless it stands for an unrecognised byte and carries a byte that is recognised: one that
has an instruction, or the byte that is `QUIT`. Every other operand is legal at every value (R68, R70). -/
def Instr.wellFormedFor (quit : Byte) : Instr → Bool
  | .unrecognized op => decide (op ∈ freeOpcodes) && decide (op ≠ quit)
  | _ => true

/-- Well-formed with the working value of `QUIT_OPCODE`. -/
def Instr.wellFormed (i : Instr) : Bool := i.wellFormedFor Config.quitOpcode

/-- The parameter `QUIT_OPCODE` is one of the twelve bytes it may be (R5, R186). -/
def quitLegal (quit : Byte) : Bool := decide (quit ∈ freeOpcodes)

end Sys2Proof
end

