-- ==== Sys2Proof/Safety.lean ====
section
/-! DEFINITION. The terms the claims use: the invariant of the machine, what a state keeps of another, and the
arithmetic of results and flags said on numbers. -/

namespace Sys2Proof.Machine

/-! ### Conditions on a state -/

/-- Nothing stands before the fetch: the next step executes the instruction at the program counter (R200). -/
def State.Running (s : State) : Prop :=
  s.fault = none ∧ s.stopped = false ∧ s.halted = false ∧ s.latch = none

/-- What holds of the state at every instruction boundary (R201): the memory is in its canonical form, the fixed
bits of the flags byte are as R15 says, a latched interrupt holds one of the eight vectors while interrupts are
disabled and the core is not halted (R24, R200, R206), and the image fits the memory (R232). -/
structure State.Inv (s : State) : Prop where
  memory : s.mem.wf = true
  fixedFlags : s.f &&& 0x2A = 0x02
  latch : ∀ t, s.latch = some t → t &&& 0x0038 = t ∧ s.ie = false ∧ s.halted = false
  image : s.imageLen ≤ 0x10000

/-- The bytes that are no instruction when `quit` is the byte of `QUIT` (R68). -/
def unrecognisedBytes (quit : Byte) : List Byte :=
  [0x08, 0x10, 0x18, 0x20, 0x28, 0x30, 0x38, 0xCB, 0xD9, 0xDD, 0xED, 0xFD].filter (fun op => op != quit)

/-! ### What one state keeps of another -/

/-- Every register but the listed ones is unchanged. -/
def RegsKept (s t : State) (changed : List Reg) : Prop := ∀ r, r ∉ changed → t.reg r = s.reg r

/-- Every flag but the listed ones is unchanged, and the three fixed bits of the flags byte are. -/
def FlagsKept (s t : State) (changed : List Flag) : Prop :=
  (∀ fl, fl ∉ changed → t.flag fl = s.flag fl) ∧ t.f &&& 0x2A = s.f &&& 0x2A

/-- Every byte of memory but those at the listed addresses reads as before. -/
def CellsKept (s t : State) (stored : List Word) : Prop := ∀ a, a ∉ stored → t.memRead a = s.memRead a

/-- Everything beside the registers, the flags, `PC`, `SP` and the memory is unchanged. -/
structure ControlKept (s t : State) : Prop where
  cyc : t.cyc = s.cyc
  latch : t.latch = s.latch
  halted : t.halted = s.halted
  ie : t.ie = s.ie
  stopped : t.stopped = s.stopped
  fault : t.fault = s.fault
  portHandler : t.portHandler = s.portHandler
  imageLen : t.imageLen = s.imageLen
  portLog : t.portLog = s.portLog

/-- The frame of an instruction: of the registers, flags and cells only those listed may change, and nothing else
but `PC` and `SP`. -/
structure Frame (s t : State) (regs : List Reg) (flags : List Flag) (cells : List Word) : Prop where
  regs : RegsKept s t regs
  flags : FlagsKept s t flags
  cells : CellsKept s t cells
  control : ControlKept s t

/-- The end of an instruction that falls through: `PC` moved past it, `SP` unchanged. -/
def FallsThrough (s t : State) (length : Nat) : Prop :=
  t.pc = s.pc + BitVec.ofNat 16 length ∧ t.sp = s.sp

/-- The test of the run-mode loop holds (R238). -/
def LoopTest (s : State) : Prop :=
  s.fault = none ∧ s.stopped = false ∧ s.halted = false ∧ s.pc.toNat < s.imageLen

/-- `n` steps lead from `s` to `t`, and the test of the run-mode loop holds before each of them (R238). -/
def LoopReaches (p : Parameters) (n : Nat) (s t : State) : Prop :=
  (coreWith p).run n s = .next t ∧ ∀ m < n, ∃ u : State, (coreWith p).run m s = .next u ∧ LoopTest u

/-- Two states are equal but for the cycle counter. -/
def SameButCycles (s t : State) : Prop := { s with cyc := 0 } = { t with cyc := 0 }

/-- Two outcomes are equal but for the cycle counter. -/
def OutSameButCycles : Out → Out → Prop
  | .next s, .next t => SameButCycles s t
  | .fault r, .fault r' => r = r'
  | .refused r, .refused r' => r = r'
  | _, _ => False

/-! ### Results and flags on numbers -/

/-- The five flags. -/
def allFlags : List Flag := [.cy, .p, .ac, .z, .s]

/-- The exclusive or of the eight low bits of a number is 0: an even number of them are 1. -/
def evenBits (r : Nat) : Bool :=
  !(r.testBit 0 ^^ r.testBit 1 ^^ r.testBit 2 ^^ r.testBit 3 ^^ r.testBit 4 ^^ r.testBit 5 ^^ r.testBit 6 ^^ r.testBit 7)

/-- Zero, sign and parity are those of the 8-bit result `r` (R16). -/
def ZSPOf (t : State) (r : Nat) : Prop :=
  t.flag .z = decide (r = 0) ∧ t.flag .s = decide (128 ≤ r) ∧ t.flag .p = evenBits r

/-- Carry and auxiliary carry are the probes of adding `y` to `x` at 7 and 3 (R17). -/
def CarriesOf (t : State) (x y : Nat) : Prop :=
  t.flag .cy = (x.testBit 7 && !(x + y).testBit 7) ∧ t.flag .ac = (x.testBit 3 && !(x + y).testBit 3)

/-- The state after adding `b` and a carry to the accumulator by an instruction of `length` bytes (R80). -/
def AddEffect (s t : State) (b : Byte) (carry : Bool) (length : Nat) : Prop :=
  t.a.toNat = (s.a.toNat + b.toNat + carry.toNat) % 256
    ∧ CarriesOf t s.a.toNat (b.toNat + carry.toNat)
    ∧ ZSPOf t ((s.a.toNat + b.toNat + carry.toNat) % 256)
    ∧ Frame s t [.a] allFlags [] ∧ FallsThrough s t length

/-- The flags after subtracting `b` and a borrow from the accumulator (R81). -/
def SubFlags (s t : State) (b : Byte) (borrow : Bool) : Prop :=
  CarriesOf t s.a.toNat ((256 - (b.toNat + borrow.toNat) % 256) % 256)
    ∧ ZSPOf t ((s.a.toNat + 512 - b.toNat - borrow.toNat) % 256)

/-- The state after subtracting `b` and a borrow from the accumulator (R81). -/
def SubEffect (s t : State) (b : Byte) (borrow : Bool) (length : Nat) : Prop :=
  t.a.toNat = (s.a.toNat + 512 - b.toNat - borrow.toNat) % 256
    ∧ SubFlags s t b borrow
    ∧ Frame s t [.a] allFlags [] ∧ FallsThrough s t length

/-- The state after comparing the accumulator with `b`: the flags of the subtraction, nothing stored (R94). -/
def CompareEffect (s t : State) (b : Byte) (length : Nat) : Prop :=
  SubFlags s t b false ∧ Frame s t [] allFlags [] ∧ FallsThrough s t length

/-- The state after a logic operation with result `r` (R110). -/
def LogicEffect (s t : State) (r : Byte) (length : Nat) : Prop :=
  t.a = r ∧ t.flag .cy = false ∧ t.flag .ac = false ∧ ZSPOf t r.toNat
    ∧ Frame s t [.a] allFlags [] ∧ FallsThrough s t length

/-- The registers an operand written to changes. -/
def regsWritten : Operand → List Reg
  | .reg r => [r]
  | .m => []

/-- The addresses an operand written to stores at. -/
def cellsWritten (s : State) : Operand → List Word
  | .reg _ => []
  | .m => [s.hl]

/-- The registers of a pair. -/
def pairRegs : Pair → List Reg
  | .bc => [.b, .c]
  | .de => [.d, .e]
  | .hl => [.h, .l]

/-- The state after a push of `v`: the two bytes below the stack pointer, `SP` lower by 2 (R150). -/
def PushEffect (s t : State) (v : Word) : Prop :=
  t.memRead (spAddr (spAdd s.sp (-1))) = hiByte v
    ∧ t.memRead (spAddr (spAdd s.sp (-2))) = loByte v
    ∧ t.sp = spAdd s.sp (-2)
    ∧ CellsKept s t [spAddr (spAdd s.sp (-1)), spAddr (spAdd s.sp (-2))]

/-- Executes one instruction several times, leaving out the fetch. -/
def execTimes : Nat → Instr → State → Out
  | 0, _, s => .next s
  | n + 1, i, s =>
    match exec i s with
    | .next t => execTimes n i t
    | .fault r => .fault r
    | .refused r => .refused r

end Sys2Proof.Machine
end

