-- ==== Sys2Proof/Certificates/Slice0/Obligations.lean ====
section
/-! DEFINITION. The statements about the model, for the provers. -/

open Sys2Proof Sys2Proof.Machine

/-! ### Encoding and decoding -/

/-- Decoding the bytes of a well-formed instruction gives it back and leaves the rest, whichever legal byte is `QUIT`. -/
def Obligations.DecodeOfEncode : Prop :=
  ∀ (quit : Byte) (i : Instr) (rest : List Byte), quitLegal quit = true → i.wellFormedFor quit = true →
    decodeBytes quit (encode quit i ++ rest) = .ok (i, rest)

/-- What is decoded is well-formed, and its bytes are the bytes that were decoded: no two byte strings mean one
instruction. -/
def Obligations.EncodeOfDecode : Prop :=
  ∀ (quit : Byte) (bytes : List Byte) (i : Instr) (rest : List Byte), quitLegal quit = true →
    decodeBytes quit bytes = .ok (i, rest) →
    i.wellFormedFor quit = true ∧ encode quit i ++ rest = bytes

/-- Words written out from the map of R66 decode to the instruction they stand for. The byte values are the Intel
8080's, which the spec supplies from general knowledge (decision D3). -/
def Obligations.SpecWordsDecode : Prop :=
  decodeTableWord 8 0b01111011 = some .mov_A_E
    ∧ decodeTableWord 8 0b10000110 = some .add_M
    ∧ decodeTableWord 24 0b00010010_00110100_11001101 = some (.call 0x1234)
    ∧ decodeTableWord 24 0b00100000_00000000_00110001 = some (.lxi_SP 0x2000)
    ∧ decodeTableWord 16 0b01000010_11000110 = some (.adi 0x42)
    ∧ decodeTableWord 8 0b11110101 = some .push_PSW
    ∧ decodeTableWord 24 0b00010010_00110100_11111010 = some (.jm 0x1234)
    ∧ decodeTableWord 8 0b11011111 = some .rst_3
    ∧ decodeTableWord 8 0b01110110 = some .hlt
    ∧ decodeTableWord 8 0b11101101 = some (.unrecognized 0xED)

/-- Of the twelve free bytes the one chosen as `QUIT` is `QUIT` and the others are unrecognised, and every other byte
is an instruction (R68, R70; which bytes are free is general knowledge, decisions D1, D2). -/
def Obligations.UnrecognisedBytesAreTheFreeOnes : Prop :=
  ∀ quit op b1 b2 : Byte, quitLegal quit = true →
    (decode3 quit op b1 b2 = .unrecognized op ↔ op ∈ unrecognisedBytes quit)
      ∧ (decode3 quit op b1 b2 = .quit ↔ op = quit)

/-- Every opcode byte is made of its fields as R62 lays them out (positions by decision D3). -/
def Obligations.OpcodeByteFields : Prop :=
  ∀ quit : Byte,
    (∀ dst r, (opcodeOf quit (.movRegReg dst r)).toNat = 0x40 + 8 * dst.code + r.code)
      ∧ (∀ dst, (opcodeOf quit (.movRegM dst)).toNat = 0x40 + 8 * dst.code + 6)
      ∧ (∀ r, (opcodeOf quit (.movMReg r)).toNat = 0x70 + r.code)
      ∧ (∀ o x, (opcodeOf quit (.alu o x)).toNat = 0x80 + 8 * o.code + x.code)
      ∧ (∀ o d8, (opcodeOf quit (.aluImm o d8)).toNat = 0xC6 + 8 * o.code)
      ∧ (∀ x, (opcodeOf quit (.inr x)).toNat = 0x04 + 8 * x.code
          ∧ (opcodeOf quit (.dcr x)).toNat = 0x05 + 8 * x.code)
      ∧ (∀ x d8, (opcodeOf quit (.mvi x d8)).toNat = 0x06 + 8 * x.code)
      ∧ (∀ p d16, (opcodeOf quit (.lxi p d16)).toNat = 0x01 + 16 * p.code)
      ∧ (∀ p, (opcodeOf quit (.inx p)).toNat = 0x03 + 16 * p.code
          ∧ (opcodeOf quit (.dcx p)).toNat = 0x0B + 16 * p.code
          ∧ (opcodeOf quit (.dad p)).toNat = 0x09 + 16 * p.code)
      ∧ (∀ p, (opcodeOf quit (.ldax p)).toNat = 0x0A + 16 * p.code
          ∧ (opcodeOf quit (.stax p)).toNat = 0x02 + 16 * p.code)
      ∧ (∀ p, (opcodeOf quit (.push p)).toNat = 0xC5 + 16 * p.code
          ∧ (opcodeOf quit (.pop p)).toNat = 0xC1 + 16 * p.code)
      ∧ (∀ cc a16, (opcodeOf quit (.jumpIf cc a16)).toNat = 0xC2 + 8 * cc.code
          ∧ (opcodeOf quit (.callIf cc a16)).toNat = 0xC4 + 8 * cc.code)
      ∧ (∀ cc, (opcodeOf quit (.retIf cc)).toNat = 0xC0 + 8 * cc.code)
      ∧ ∀ n : Fin 8, (opcodeOf quit (.rst n)).toNat = 0xC7 + 8 * n.val

/-- The length of an instruction by its opcode byte, for every recognised byte as R64 lists them (byte values by
decision D3), and the encoder writes that many. R64 gives an unrecognised byte no length: that the model counts it as
1, in the second clause and in the encoding of `Instr.unrecognized`, is the model's own convention (log 25). -/
def Obligations.LengthByOpcode : Prop :=
  (∀ quit op : Byte, quitLegal quit = true → op ∉ unrecognisedBytes quit →
    (entryOf quit op).length =
      if op &&& 0xCF = 0x01 ∨ op &&& 0xC7 = 0xC2 ∨ op &&& 0xC7 = 0xC4
          ∨ op ∈ [(0x22 : Byte), 0x2A, 0x32, 0x3A, 0xC3, 0xCD] then 3
      else if op &&& 0xC7 = 0x06 ∨ op &&& 0xC7 = 0xC6 ∨ op = 0xD3 ∨ op = 0xDB then 2
      else 1)
    ∧ (∀ quit op : Byte, quitLegal quit = true → op ∈ unrecognisedBytes quit → (entryOf quit op).length = 1)
    ∧ ∀ (quit : Byte) (i : Instr), quitLegal quit = true → i.wellFormedFor quit = true →
        (encode quit i).length = (entryOf quit (opcodeOf quit i)).length

/-! ### Reset and the invariant -/

/-- What reset leaves. The values of `LATCH`, `HALTED`, `STOPPED`, `FAULT`, `PORT_HANDLER` and `IMAGE_LEN` are the
spec's decision D18, and `IE` is the parameter `IE_RESET`, here at either value. `portLog` is a field of the model's
own, and its empty value the model's choice (log 23). -/
def Obligations.ResetValues : Prop :=
  ∀ ie : Bool,
    (∀ r, (State.resetWith ie).reg r = 0x00) ∧ (State.resetWith ie).f = 0x02
      ∧ (State.resetWith ie).pc = 0x0000 ∧ (State.resetWith ie).sp.val = 0x10000
      ∧ (∀ a, (State.resetWith ie).memRead a = 0x00) ∧ (State.resetWith ie).cyc = 0
      ∧ (State.resetWith ie).latch = none ∧ (State.resetWith ie).halted = false
      ∧ (State.resetWith ie).ie = ie ∧ (State.resetWith ie).stopped = false
      ∧ (State.resetWith ie).fault = none ∧ (State.resetWith ie).portHandler = none
      ∧ (State.resetWith ie).imageLen = 0 ∧ (State.resetWith ie).portLog = []
      ∧ State.reset = State.resetWith false

/-- The invariant holds after reset. -/
def Obligations.ResetMeetsInvariant : Prop := State.reset.Inv

/-- Every step keeps the invariant, from every state that meets it and whatever the parameters. -/
def Obligations.StepKeepsInvariant : Prop :=
  ∀ (p : Parameters) (s t : State), s.Inv → stepWith p s = .next t → t.Inv

/-- Every move of the host keeps the invariant, whatever the parameters, and what each move does: `Reset` gives the
reset state with `IE` at `IE_RESET` (decision D18), the port handler is attached or taken away (decision D31), the
cycle counter is read or set to 0, and nothing else changes. What `intReq` and `load` do is in InterruptAcceptance,
MaskedRequestIsLost, NonRstVectorIsRefused and LoadProgram. -/
def Obligations.HostMovesKeepInvariant : Prop :=
  (∀ (p : Parameters) (m : HostMove) (s t : State), s.Inv → hostMoveWith p m s = .next t → t.Inv)
    ∧ (∀ (p : Parameters) (s : State),
      hostMoveWith p .reset s = .next (State.resetWith p.ieReset)
        ∧ (∀ image, hostMoveWith p (.load image) s = load image s)
        ∧ (∀ v, hostMoveWith p (.intReq v) s = intReq v s)
        ∧ (∀ h, hostMoveWith p (.attachHandler h) s = .next { s with portHandler := some h })
        ∧ hostMoveWith p .detachHandler s = .next { s with portHandler := none }
        ∧ hostMoveWith p .readCycles s = .next s ∧ readCycles s = s.cyc
        ∧ hostMoveWith p .resetCycles s = .next { s with cyc := 0 })
    ∧ (∀ (m : HostMove) (s : State), hostMove m s = hostMoveWith workingParameters m s)
    ∧ State.reset = State.resetWith workingParameters.ieReset

/-- A memory cell holds what was last written to it, a write changes that cell and nothing else, and every cell is
zero after reset. -/
def Obligations.MemoryCellHoldsLastWrite : Prop :=
  (∀ (s : State) (a : Word) (v : Byte), (s.memWrite a v).memRead a = v
    ∧ (∀ b, b ≠ a → (s.memWrite a v).memRead b = s.memRead b)
    ∧ s.memWrite a v = { s with mem := (s.memWrite a v).mem })
    ∧ ∀ a, State.reset.memRead a = 0x00

/-! ### The step -/

/-- When the bytes at the program counter decode to an instruction and nothing stands before the fetch, the step is
that instruction's meaning, with its cost added to `CYC` unless it raised a fault. -/
def Obligations.StepRunsDecodedInstruction : Prop :=
  (∀ (p : Parameters) (s t : State) (i : Instr) (rest : List Byte), s.Running →
    decodeBytes p.quitOpcode [s.memRead s.pc, s.memRead (s.pc + 1), s.memRead (s.pc + 2)] = .ok (i, rest) →
    exec i s = .next t →
    stepWith p s = .next (if t.fault = none then { t with cyc := t.cyc + cycleCost p (s.memRead s.pc) s } else t))
    ∧ ∀ s : State, step s = stepWith workingParameters s

/-- The tests before the fetch, in their order: fault, stopped, halted, latched interrupt; and the service of a
latched interrupt. That a no-op step adds nothing to `CYC` is decision D26. -/
def Obligations.TestsBeforeFetch : Prop :=
  ∀ (p : Parameters) (s : State),
    (∀ r, s.fault = some r → stepWith p s = .fault r)
      ∧ (s.fault = none → s.stopped = true → stepWith p s = .next s)
      ∧ (s.fault = none → s.stopped = false → s.halted = true → stepWith p s = .next s)
      ∧ ∀ v, s.fault = none → s.stopped = false → s.halted = false → s.latch = some v →
          stepWith p s = .next { s with pc := v, latch := none, cyc := s.cyc + p.intCost }

/-- Acceptance of an interrupt request: `PC` pushed, the vector latched, interrupts disabled, the halt left, and
nothing else changed. The two-phase reading is decision D15, the stack-pointer arithmetic D4. -/
def Obligations.InterruptAcceptance : Prop :=
  ∀ (s : State) (n : Fin 8), s.ie = true → ∃ t, intReq (BitVec.ofNat 8 (0xC7 + 8 * n.val)) s = .next t
    ∧ PushEffect s t s.pc ∧ t.latch = some (BitVec.ofNat 16 (8 * n.val)) ∧ t.ie = false ∧ t.halted = false
    ∧ t.pc = s.pc ∧ RegsKept s t [] ∧ FlagsKept s t [] ∧ t.cyc = s.cyc ∧ t.stopped = s.stopped
    ∧ t.fault = s.fault ∧ t.portHandler = s.portHandler ∧ t.imageLen = s.imageLen ∧ t.portLog = s.portLog

/-- A request made while interrupts are disabled is lost, and a later `EI` does not bring it back. -/
def Obligations.MaskedRequestIsLost : Prop :=
  ∀ (s : State) (v : Byte), s.ie = false → v &&& 0xC7 = 0xC7 →
    intReq v s = .next s ∧ ∃ t, exec .ei s = .next t ∧ t.ie = true ∧ t.latch = s.latch

/-- A vector byte that is no `RST` encoding is refused, whether or not interrupts are enabled (decision D16). -/
def Obligations.NonRstVectorIsRefused : Prop :=
  ∀ (s : State) (v : Byte), (∀ n : Fin 8, v ≠ BitVec.ofNat 8 (0xC7 + 8 * n.val)) →
    intReq v s = .refused (.notRstVector v)

/-- Right after an acceptance a second request changes nothing, so it cannot overwrite the latch. -/
def Obligations.SecondRequestChangesNothing : Prop :=
  ∀ (s t : State) (v w : Byte), s.ie = true → intReq v s = .next t → w &&& 0xC7 = 0xC7 → intReq w t = .next t

/-- An interrupt accepted between two instructions goes to its vector at the next step, and a `RET` from there comes
back to the interrupted instruction with every register, every flag and the stack pointer as they were; a stack
pointer of 0 comes back as 0x10000 (decisions D4, D15). -/
def Obligations.InterruptedProgramResumes : Prop :=
  ∀ (s : State) (v : Byte), s.Running → s.ie = true → v &&& 0xC7 = 0xC7 →
    ∃ t u w, intReq v s = .next t ∧ step t = .next u ∧ u.pc = (v &&& 0x38).setWidth 16 ∧ u.latch = none
      ∧ exec .ret u = .next w ∧ w.pc = s.pc ∧ w.sp = (if s.sp = 0 then 0x10000 else s.sp)
      ∧ RegsKept s w [] ∧ w.f = s.f ∧ w.ie = false

/-- `HLT` with interrupts disabled leaves the core halted with interrupts disabled; such a core changes at no step and at
no interrupt request, and no host move but reset ends it. -/
def Obligations.HaltedWithInterruptsDisabled : Prop :=
  (∀ s : State, s.ie = false → ∃ t, exec .hlt s = .next t ∧ t.halted = true ∧ t.ie = false ∧ t.fault = s.fault)
    ∧ ∀ s : State, s.fault = none → s.halted = true → s.ie = false →
      step s = .next s
        ∧ (∀ v, v &&& 0xC7 = 0xC7 → intReq v s = .next s)
        ∧ ∀ m t, m ≠ HostMove.reset → hostMove m s = .next t → t.halted = true ∧ t.ie = false

/-! ### Faults -/

/-- A step that fetches one of the eleven unrecognised bytes raises `UnrecognizedOpcode` with that byte. -/
def Obligations.UnrecognisedByteFaults : Prop :=
  (∀ s : State, s.Running →
    s.memRead s.pc ∈ [(0x10 : Byte), 0x18, 0x20, 0x28, 0x30, 0x38, 0xCB, 0xD9, 0xDD, 0xED, 0xFD] →
    ∃ t, step s = .next t ∧ t.fault = some (.unrecognizedOpcode (s.memRead s.pc)))
    ∧ ∀ (s : State) (op : Byte), exec (.unrecognized op) s = .next { s with fault := some (.unrecognizedOpcode op) }

/-- A step that executes `IN` or `OUT` with no handler attached raises `MissingPortHandler`, which carries nothing
beyond its kind. -/
def Obligations.MissingHandlerFaults : Prop :=
  ∀ (p : Parameters) (s : State) (i : Instr) (rest : List Byte), s.Running → s.portHandler = none →
    decodeBytes p.quitOpcode [s.memRead s.pc, s.memRead (s.pc + 1), s.memRead (s.pc + 2)] = .ok (i, rest) →
    (∃ d8, i = .inp d8 ∨ i = .out d8) →
    ∃ t, stepWith p s = .next t ∧ t.fault = some .missingPortHandler

/-- A step that raises a fault sets the fault latch and changes nothing else (decision D19). -/
def Obligations.FaultChangesNothingElse : Prop :=
  ∀ (p : Parameters) (s t : State), s.fault = none → stepWith p s = .next t → t.fault ≠ none →
    t = { s with fault := t.fault }

/-- The list of faults is closed: while no fault is latched every step has a next state, and it latches a fault only
where the byte fetched as an opcode is unrecognised, or where the instruction is `IN` or `OUT` and there is no handler. -/
def Obligations.FaultListIsClosed : Prop :=
  ∀ (p : Parameters) (s : State), s.fault = none → ∃ t i rest, stepWith p s = .next t
    ∧ decodeBytes p.quitOpcode [s.memRead s.pc, s.memRead (s.pc + 1), s.memRead (s.pc + 2)] = .ok (i, rest)
    ∧ ∀ r, t.fault = some r →
        (r = .unrecognizedOpcode (s.memRead s.pc) ∧ i = .unrecognized (s.memRead s.pc))
          ∨ (r = .missingPortHandler ∧ s.portHandler = none ∧ ∃ d8, i = .inp d8 ∨ i = .out d8)

/-- A latched fault is never cleared but by reset: no step exists, and every other host move keeps it (decision
D19). -/
def Obligations.FaultIsFatal : Prop :=
  ∀ (s : State) (r : Fault), s.fault = some r →
    step s = .fault r ∧ (∀ m t, m ≠ HostMove.reset → hostMove m s = .next t → t.fault = some r)
      ∧ hostMove .reset s = .next State.reset

/-! ### Arithmetic -/

/-- `ADD`, `ADI`, `ADC`, `ACI`: the sum mod 256, the carries by the probe, zero, sign and parity from the result.
Which operand is probed is decision D7, how the incoming carry enters D8. -/
def Obligations.AddInstructions : Prop :=
  ∀ s : State,
    (∀ x, ∃ t, exec (.alu .add x) s = .next t ∧ AddEffect s t (s.operand x) false 1)
      ∧ (∀ d8, ∃ t, exec (.adi d8) s = .next t ∧ AddEffect s t d8 false 2)
      ∧ (∀ x, ∃ t, exec (.alu .adc x) s = .next t ∧ AddEffect s t (s.operand x) (s.flag .cy) 1)
      ∧ ∀ d8, ∃ t, exec (.aci d8) s = .next t ∧ AddEffect s t d8 (s.flag .cy) 2

/-- `SUB`, `SUI`, `SBB`, `SBI`: the exact difference mod 256; the carries are the probe of adding the negation, stored
uninverted (decision D9). -/
def Obligations.SubtractInstructions : Prop :=
  ∀ s : State,
    (∀ x, ∃ t, exec (.alu .sub x) s = .next t ∧ SubEffect s t (s.operand x) false 1)
      ∧ (∀ d8, ∃ t, exec (.sui d8) s = .next t ∧ SubEffect s t d8 false 2)
      ∧ (∀ x, ∃ t, exec (.alu .sbb x) s = .next t ∧ SubEffect s t (s.operand x) (s.flag .cy) 1)
      ∧ ∀ d8, ∃ t, exec (.sbi d8) s = .next t ∧ SubEffect s t d8 (s.flag .cy) 2

/-- `CMP`, `CPI`: the flags of the subtraction, the accumulator unchanged; zero exactly when the operands are equal
(carries by decision D9). -/
def Obligations.CompareInstructions : Prop :=
  ∀ s : State,
    (∀ x, ∃ t, exec (.alu .cmp x) s = .next t ∧ CompareEffect s t (s.operand x) 1
      ∧ (t.flag .z = true ↔ s.a = s.operand x))
      ∧ ∀ d8, ∃ t, exec (.cpi d8) s = .next t ∧ CompareEffect s t d8 2 ∧ (t.flag .z = true ↔ s.a = d8)

/-- AND, XOR, OR and their immediate forms: carry cleared, auxiliary carry cleared (decision D11), zero, sign and
parity from the result. -/
def Obligations.LogicInstructions : Prop :=
  ∀ s : State,
    (∀ x, (∃ t, exec (.alu .ana x) s = .next t ∧ LogicEffect s t (s.a &&& s.operand x) 1)
      ∧ (∃ t, exec (.alu .xra x) s = .next t ∧ LogicEffect s t (s.a ^^^ s.operand x) 1)
      ∧ ∃ t, exec (.alu .ora x) s = .next t ∧ LogicEffect s t (s.a ||| s.operand x) 1)
      ∧ ∀ d8, (∃ t, exec (.ani d8) s = .next t ∧ LogicEffect s t (s.a &&& d8) 2)
        ∧ (∃ t, exec (.xri d8) s = .next t ∧ LogicEffect s t (s.a ^^^ d8) 2)
        ∧ ∃ t, exec (.ori d8) s = .next t ∧ LogicEffect s t (s.a ||| d8) 2

/-- `INR r` and `INR M`: plus 1 mod 256; auxiliary carry exactly when the old low nibble is 0xF
(decision D7, log 12); carry untouched; and their encodings (by decision D3, log 9). -/
def Obligations.IncrementInstructions : Prop :=
  ∀ (s : State) (quit : Byte) (x : Operand), encode quit (.inr x) = [BitVec.ofNat 8 (0x04 + 8 * x.code)]
    ∧ ∃ t, exec (.inr x) s = .next t
      ∧ (t.operand x).toNat = ((s.operand x).toNat + 1) % 256
      ∧ t.flag .ac = decide ((s.operand x).toNat % 16 = 15)
      ∧ ZSPOf t (((s.operand x).toNat + 1) % 256)
      ∧ Frame s t (regsWritten x) [.ac, .z, .s, .p] (cellsWritten s x) ∧ FallsThrough s t 1

/-- `DCR r` and `DCR M`: minus 1 mod 256; auxiliary carry exactly when the old low nibble is 8 (decision D10); carry
untouched. -/
def Obligations.DecrementInstructions : Prop :=
  ∀ (s : State) (x : Operand), ∃ t, exec (.dcr x) s = .next t
    ∧ (t.operand x).toNat = ((s.operand x).toNat + 255) % 256
    ∧ t.flag .ac = decide ((s.operand x).toNat % 16 = 8)
    ∧ ZSPOf t (((s.operand x).toNat + 255) % 256)
    ∧ Frame s t (regsWritten x) [.ac, .z, .s, .p] (cellsWritten s x) ∧ FallsThrough s t 1

/-- `INX` and `DCX`: a pair plus or minus 1 mod 65536, no flag (general knowledge, G5); the stack pointer by decision
D4: up from 0x10000 to 1, down from 0 to 0xFFFF. -/
def Obligations.PairStepInstructions : Prop :=
  ∀ s : State,
    (∀ p, ∃ t, exec (.inx (.pair p)) s = .next t ∧ (t.pair p).toNat = ((s.pair p).toNat + 1) % 65536
      ∧ Frame s t (pairRegs p) [] [] ∧ FallsThrough s t 1)
      ∧ (∀ p, ∃ t, exec (.dcx (.pair p)) s = .next t ∧ (t.pair p).toNat = ((s.pair p).toNat + 65535) % 65536
        ∧ Frame s t (pairRegs p) [] [] ∧ FallsThrough s t 1)
      ∧ (∃ t, exec (.inx .sp) s = .next t ∧ t.sp.val = (if s.sp.val = 0x10000 then 1 else s.sp.val + 1)
        ∧ Frame s t [] [] [] ∧ t.pc = s.pc + 1)
      ∧ ∃ t, exec (.dcx .sp) s = .next t ∧ t.sp.val = (if s.sp.val = 0 then 0xFFFF else s.sp.val - 1)
        ∧ Frame s t [] [] [] ∧ t.pc = s.pc + 1

/-- `DAD`: HL plus a pair or the stack pointer mod 65536; carry by the probe at bit 15 with HL the probed operand
(decision D7); no other flag. -/
def Obligations.DoubleAddInstructions : Prop :=
  ∀ (s : State) (p : PairSp), ∃ t, exec (.dad p) s = .next t
    ∧ (t.pair .hl).toNat = ((s.pair .hl).toNat + s.pairSp p) % 65536
    ∧ t.flag .cy = ((s.pair .hl).toNat.testBit 15 && !((s.pair .hl).toNat + s.pairSp p).testBit 15)
    ∧ Frame s t [.h, .l] [.cy] [] ∧ FallsThrough s t 1

/-- The probe: its formula; the arithmetic carry out of bit `i` and the probe by the carry `c` into bit `i`; that the two
differ exactly when bit `i` of `b` and `c` are both 1; and three values, which show that it is not symmetric. -/
def Obligations.ProbeAgainstArithmeticCarry : Prop :=
  ∀ a b i : Nat,
    let c := decide (2 ^ i ≤ a % 2 ^ i + b % 2 ^ i)
    let carryOut := decide (2 ^ (i + 1) ≤ a % 2 ^ (i + 1) + b % 2 ^ (i + 1))
    (probe a b i = true ↔ a.testBit i = true ∧ (a + b).testBit i = false)
      ∧ carryOut = (a.testBit i && b.testBit i || a.testBit i && c || b.testBit i && c)
      ∧ probe a b i = (a.testBit i && (b.testBit i ^^ c))
      ∧ (probe a b i ≠ carryOut ↔ b.testBit i = true ∧ c = true)
      ∧ probe 0xFF 0x01 7 = true ∧ probe 0x01 0xFF 7 = false ∧ probe 0xFF 0xFF 7 = false

/-! ### Rotates, decimal adjust, complement, carry -/

/-- The four rotates, bit by bit; only carry changes beside the accumulator (decision D13). -/
def Obligations.RotateInstructions : Prop :=
  ∀ s : State,
    (∃ t, exec .rlc s = .next t ∧ (∀ i : Fin 8, t.a.getLsbD i = s.a.getLsbD ((i.val + 7) % 8))
      ∧ t.flag .cy = s.a.getLsbD 7 ∧ Frame s t [.a] [.cy] [] ∧ FallsThrough s t 1)
      ∧ (∃ t, exec .rrc s = .next t ∧ (∀ i : Fin 8, t.a.getLsbD i = s.a.getLsbD ((i.val + 1) % 8))
        ∧ t.flag .cy = s.a.getLsbD 0 ∧ Frame s t [.a] [.cy] [] ∧ FallsThrough s t 1)
      ∧ (∃ t, exec .ral s = .next t
        ∧ (∀ i : Fin 8, t.a.getLsbD i = if i.val = 0 then s.flag .cy else s.a.getLsbD (i.val - 1))
        ∧ t.flag .cy = s.a.getLsbD 7 ∧ Frame s t [.a] [.cy] [] ∧ FallsThrough s t 1)
      ∧ ∃ t, exec .rar s = .next t
        ∧ (∀ i : Fin 8, t.a.getLsbD i = if i.val = 7 then s.flag .cy else s.a.getLsbD (i.val + 1))
        ∧ t.flag .cy = s.a.getLsbD 0 ∧ Frame s t [.a] [.cy] [] ∧ FallsThrough s t 1

/-- Eight `RLC`s restore the accumulator; nine `RAL`s restore the accumulator and carry. -/
def Obligations.RotatesComeRound : Prop :=
  ∀ s : State,
    (∃ t, execTimes 8 .rlc s = .next t ∧ t.a = s.a ∧ t.pc = s.pc + 8)
      ∧ ∃ t, execTimes 9 .ral s = .next t ∧ t.a = s.a ∧ t.flag .cy = s.flag .cy ∧ t.pc = s.pc + 9

/-- `DAA`: 6 is added when the low nibble is above 9 or auxiliary carry is set, then 6 to the high nibble when that is
above 9 or carry is set; the two flags afterwards say which nibble was above 9; zero, sign and parity stay (decision
D12). -/
def Obligations.DecimalAdjust : Prop :=
  ∀ s : State, ∃ t, exec .daa s = .next t
    ∧ (let low := if s.a.toNat % 16 > 9 ∨ s.flag .ac = true then (s.a.toNat + 6) % 256 else s.a.toNat
       t.a.toNat = (if low / 16 > 9 ∨ s.flag .cy = true then (low + 0x60) % 256 else low)
         ∧ t.flag .ac = decide (s.a.toNat % 16 > 9) ∧ t.flag .cy = decide (low / 16 > 9))
    ∧ Frame s t [.a] [.ac, .cy] [] ∧ FallsThrough s t 1

/-- `CMA` complements every bit of the accumulator and no flag; `STC` sets carry and `CMC` complements it, and neither
changes anything else (general knowledge, G6). -/
def Obligations.ComplementAndCarry : Prop :=
  ∀ s : State,
    (∃ t, exec .cma s = .next t ∧ (∀ i : Fin 8, t.a.getLsbD i = !s.a.getLsbD i)
      ∧ Frame s t [.a] [] [] ∧ FallsThrough s t 1)
      ∧ (∃ t, exec .stc s = .next t ∧ t.flag .cy = true ∧ Frame s t [] [.cy] [] ∧ FallsThrough s t 1)
      ∧ ∃ t, exec .cmc s = .next t ∧ t.flag .cy = !s.flag .cy ∧ Frame s t [] [.cy] [] ∧ FallsThrough s t 1

/-! ### Data transfer -/

/-- `MOV` in its three forms: register to register, from the byte at HL, to the byte at HL; and their encodings (by
decision D3, log 9). -/
def Obligations.MoveInstructions : Prop :=
  ∀ (s : State) (quit : Byte),
    (∀ dst r, encode quit (.movRegReg dst r) = [BitVec.ofNat 8 (0x40 + 8 * dst.code + r.code)]
      ∧ ∃ t, exec (.movRegReg dst r) s = .next t ∧ t.reg dst = s.reg r
        ∧ Frame s t [dst] [] [] ∧ FallsThrough s t 1)
      ∧ (∀ dst, encode quit (.movRegM dst) = [BitVec.ofNat 8 (0x46 + 8 * dst.code)]
        ∧ ∃ t, exec (.movRegM dst) s = .next t ∧ t.reg dst = s.memRead s.hl
          ∧ Frame s t [dst] [] [] ∧ FallsThrough s t 1)
      ∧ ∀ r, encode quit (.movMReg r) = [BitVec.ofNat 8 (0x70 + r.code)]
        ∧ ∃ t, exec (.movMReg r) s = .next t ∧ t.memRead s.hl = s.reg r
          ∧ Frame s t [] [] [s.hl] ∧ FallsThrough s t 1

/-- `MVI r`, `MVI M` and `LXI`, and their encodings (by decision D3, log 9; the halves of a pair by D6, log 10). -/
def Obligations.ImmediateLoads : Prop :=
  ∀ (s : State) (quit d8 : Byte) (d16 : Word),
    (∀ r, encode quit (.mvi (.reg r) d8) = [BitVec.ofNat 8 (0x06 + 8 * r.code), d8]
      ∧ ∃ t, exec (.mvi (.reg r) d8) s = .next t ∧ t.reg r = d8 ∧ Frame s t [r] [] [] ∧ FallsThrough s t 2)
      ∧ (encode quit (.mvi .m d8) = [0x36, d8]
        ∧ ∃ t, exec (.mvi .m d8) s = .next t ∧ t.memRead s.hl = d8
          ∧ Frame s t [] [] [s.hl] ∧ FallsThrough s t 2)
      ∧ (∀ p, encode quit (.lxi p d16) = [BitVec.ofNat 8 (0x01 + 16 * p.code), loByte d16, hiByte d16])
      ∧ (∀ p, ∃ t, exec (.lxi (.pair p) d16) s = .next t ∧ t.pair p = d16
        ∧ (p = .bc → t.b = hiByte d16 ∧ t.c = loByte d16) ∧ (p = .de → t.d = hiByte d16 ∧ t.e = loByte d16)
        ∧ (p = .hl → t.h = hiByte d16 ∧ t.l = loByte d16)
        ∧ Frame s t (pairRegs p) [] [] ∧ FallsThrough s t 3)
      ∧ ∃ t, exec (.lxi .sp d16) s = .next t ∧ t.sp.val = d16.toNat ∧ Frame s t [] [] [] ∧ t.pc = s.pc + 3

/-- `LDAX` and `STAX`: the accumulator and the byte at BC or DE; and their encodings (by decision D3, log 9; the halves
of a pair by D6, log 10). -/
def Obligations.AccumulatorIndirect : Prop :=
  ∀ (s : State) (quit : Byte) (p : AccPair),
    encode quit (.ldax p) = [BitVec.ofNat 8 (0x0A + 16 * p.code)]
      ∧ encode quit (.stax p) = [BitVec.ofNat 8 (0x02 + 16 * p.code)]
      ∧ s.accPair .bc = joinBytes s.b s.c ∧ s.accPair .de = joinBytes s.d s.e
      ∧ (∃ t, exec (.ldax p) s = .next t ∧ t.a = s.memRead (s.accPair p)
        ∧ Frame s t [.a] [] [] ∧ FallsThrough s t 1)
      ∧ ∃ t, exec (.stax p) s = .next t ∧ t.memRead (s.accPair p) = s.a
        ∧ Frame s t [] [] [s.accPair p] ∧ FallsThrough s t 1

/-- `LDA` and `STA`: the accumulator and the byte at the address; and their encodings (by decision D3, log 9). -/
def Obligations.AccumulatorDirect : Prop :=
  ∀ (s : State) (quit : Byte) (a16 : Word),
    encode quit (.lda a16) = [0x3A, loByte a16, hiByte a16]
      ∧ encode quit (.sta a16) = [0x32, loByte a16, hiByte a16]
      ∧ (∃ t, exec (.lda a16) s = .next t ∧ t.a = s.memRead a16 ∧ Frame s t [.a] [] [] ∧ FallsThrough s t 3)
      ∧ ∃ t, exec (.sta a16) s = .next t ∧ t.memRead a16 = s.a ∧ Frame s t [] [] [a16] ∧ FallsThrough s t 3

/-- `LHLD` and `SHLD`: the low byte at the address, the high byte at the next address mod 65536; and their encodings
(by decision D3, log 9). -/
def Obligations.PairDirect : Prop :=
  ∀ (s : State) (quit : Byte) (a16 : Word),
    encode quit (.lhld a16) = [0x2A, loByte a16, hiByte a16]
      ∧ encode quit (.shld a16) = [0x22, loByte a16, hiByte a16]
      ∧ (∃ t, exec (.lhld a16) s = .next t ∧ t.l = s.memRead a16 ∧ t.h = s.memRead (a16 + 1)
        ∧ Frame s t [.h, .l] [] [] ∧ FallsThrough s t 3)
      ∧ ∃ t, exec (.shld a16) s = .next t ∧ t.memRead a16 = s.l ∧ t.memRead (a16 + 1) = s.h
        ∧ Frame s t [] [] [a16, a16 + 1] ∧ FallsThrough s t 3

/-- `XCHG` exchanges DE and HL, and `PCHL` goes to HL (general knowledge, G5). -/
def Obligations.ExchangeAndJumpToPair : Prop :=
  ∀ s : State,
    (∃ t, exec .xchg s = .next t ∧ t.d = s.h ∧ t.e = s.l ∧ t.h = s.d ∧ t.l = s.e
      ∧ Frame s t [.d, .e, .h, .l] [] [] ∧ FallsThrough s t 1)
      ∧ ∃ t, exec .pchl s = .next t ∧ t.pc = joinBytes s.h s.l ∧ Frame s t [] [] [] ∧ t.sp = s.sp

/-! ### Stack -/

/-- `PUSH rp` and `PUSH PSW`: high byte at SP-1, low byte at SP-2, the stack pointer lower by 2 (its arithmetic by
decision D4); the accumulator is the high byte of the pair with the flags (D6). -/
def Obligations.PushInstructions : Prop :=
  ∀ (s : State) (p : PairPsw), ∃ t, exec (.push p) s = .next t
    ∧ PushEffect s t (match p with | .pair q => s.pair q | .psw => joinBytes s.a s.f)
    ∧ Frame s t [] [] [spAddr (spAdd s.sp (-1)), spAddr (spAdd s.sp (-2))] ∧ t.pc = s.pc + 1

/-- `POP rp` and `POP PSW`: low byte at SP, high byte at SP+1, the stack pointer higher by 2 (decision D4); the flags
byte masked so that its fixed bits stay. -/
def Obligations.PopInstructions : Prop :=
  ∀ s : State,
    let lo := s.memRead (spAddr s.sp)
    let hi := s.memRead (spAddr (spAdd s.sp 1))
    (∀ p, ∃ t, exec (.pop (.pair p)) s = .next t ∧ t.pair p = joinBytes hi lo ∧ t.sp = spAdd s.sp 2
      ∧ Frame s t (pairRegs p) [] [] ∧ t.pc = s.pc + 1)
      ∧ ∃ t, exec (.pop .psw) s = .next t ∧ t.a = hi ∧ t.f = (lo &&& 0xD5) ||| 0x02 ∧ t.sp = spAdd s.sp 2
        ∧ RegsKept s t [.a] ∧ CellsKept s t [] ∧ ControlKept s t ∧ t.pc = s.pc + 1

/-- Pushing the accumulator and flags and popping them restores the accumulator and the five flags and forces the
three fixed bits; so does popping as flags a byte that came from `C`. -/
def Obligations.PswThroughTheStack : Prop :=
  ∀ s : State,
    (∃ t u, exec .push_PSW s = .next t ∧ exec .pop_PSW t = .next u ∧ u.a = s.a
      ∧ (∀ fl, u.flag fl = s.flag fl) ∧ u.f &&& 0x2A = 0x02)
      ∧ ∃ t u, exec .push_B s = .next t ∧ exec .pop_PSW t = .next u ∧ u.a = s.b
        ∧ (∀ fl, u.flag fl = getFlag fl s.c) ∧ u.f &&& 0x2A = 0x02

/-- A pair pushed and popped into a pair arrives whole, and the stack pointer comes back, 0 as 0x10000 (decision
D4). -/
def Obligations.PairThroughTheStack : Prop :=
  ∀ (s : State) (p q : Pair), ∃ t u, exec (.push (.pair p)) s = .next t ∧ exec (.pop (.pair q)) t = .next u
    ∧ u.pair q = s.pair p ∧ u.sp = (if s.sp = 0 then 0x10000 else s.sp) ∧ RegsKept s u (pairRegs q)

/-- `XTHL`: L and the byte at SP, H and the byte at SP+1, exchanged; the stack pointer stays (SP+1 by decision D4,
log 11); and its encoding (by decision D3, log 9). -/
def Obligations.ExchangeWithStackTop : Prop :=
  ∀ (s : State) (quit : Byte), encode quit .xthl = [0xE3] ∧ ∃ t, exec .xthl s = .next t
    ∧ t.l = s.memRead (spAddr s.sp) ∧ t.h = s.memRead (spAddr (spAdd s.sp 1))
    ∧ t.memRead (spAddr s.sp) = s.l ∧ t.memRead (spAddr (spAdd s.sp 1)) = s.h
    ∧ Frame s t [.h, .l] [] [spAddr s.sp, spAddr (spAdd s.sp 1)] ∧ FallsThrough s t 1

/-- `SPHL`: HL into the stack pointer, never the sentinel; and its encoding (by decision D3, log 9). -/
def Obligations.StackPointerFromPair : Prop :=
  ∀ (s : State) (quit : Byte), encode quit .sphl = [0xF9] ∧ ∃ t, exec .sphl s = .next t
    ∧ t.sp.val = (joinBytes s.h s.l).toNat ∧ t.sp.val ≤ 0xFFFF ∧ Frame s t [] [] [] ∧ t.pc = s.pc + 1

/-! ### Control transfer -/

/-- `JMP` and `Jcc`, what each condition tests, and their encodings (by decisions D3 and D29, log 9). -/
def Obligations.JumpInstructions : Prop :=
  ∀ (s : State) (quit : Byte) (a16 : Word),
    encode quit (.jmp a16) = [0xC3, loByte a16, hiByte a16]
      ∧ (∃ t, exec (.jmp a16) s = .next t ∧ t.pc = a16 ∧ t.sp = s.sp ∧ Frame s t [] [] [])
      ∧ (∀ cc, encode quit (.jumpIf cc a16) = [BitVec.ofNat 8 (0xC2 + 8 * cc.code), loByte a16, hiByte a16]
        ∧ ∃ t, exec (.jumpIf cc a16) s = .next t ∧ t.pc = (if condHolds cc s.f then a16 else s.pc + 3)
          ∧ t.sp = s.sp ∧ Frame s t [] [] [])
      ∧ (condHolds .nz s.f = !s.flag .z) ∧ condHolds .z s.f = s.flag .z
      ∧ (condHolds .nc s.f = !s.flag .cy) ∧ condHolds .c s.f = s.flag .cy
      ∧ (condHolds .po s.f = !s.flag .p) ∧ condHolds .pe s.f = s.flag .p
      ∧ (condHolds .p s.f = !s.flag .s) ∧ condHolds .m s.f = s.flag .s

/-- `CALL` and `Ccc`: the address after the instruction pushed, then the jump; not taken, nothing is pushed
(stack-pointer arithmetic by decision D4). -/
def Obligations.CallInstructions : Prop :=
  ∀ (s : State) (a16 : Word),
    (∃ t, exec (.call a16) s = .next t ∧ PushEffect s t (s.pc + 3) ∧ t.pc = a16
      ∧ Frame s t [] [] [spAddr (spAdd s.sp (-1)), spAddr (spAdd s.sp (-2))])
      ∧ ∀ cc, ∃ t, exec (.callIf cc a16) s = .next t
        ∧ (condHolds cc s.f = true → PushEffect s t (s.pc + 3) ∧ t.pc = a16
          ∧ Frame s t [] [] [spAddr (spAdd s.sp (-1)), spAddr (spAdd s.sp (-2))])
        ∧ (condHolds cc s.f = false → Frame s t [] [] [] ∧ FallsThrough s t 3)

/-- `RET` and `Rcc`: the word at the top of the stack into `PC`, the stack pointer higher by 2 (decision D4); not
taken, neither. -/
def Obligations.ReturnInstructions : Prop :=
  ∀ s : State,
    let top := joinBytes (s.memRead (spAddr (spAdd s.sp 1))) (s.memRead (spAddr s.sp))
    (∃ t, exec .ret s = .next t ∧ t.pc = top ∧ t.sp = spAdd s.sp 2 ∧ Frame s t [] [] [])
      ∧ ∀ cc, ∃ t, exec (.retIf cc) s = .next t ∧ Frame s t [] [] []
        ∧ (condHolds cc s.f = true → t.pc = top ∧ t.sp = spAdd s.sp 2)
        ∧ (condHolds cc s.f = false → FallsThrough s t 1)

/-- `RST n`: the address after it pushed (decision D14), then to `n*8`; interrupts stay as they were. -/
def Obligations.RestartInstructions : Prop :=
  ∀ (s : State) (n : Fin 8), ∃ t, exec (.rst n) s = .next t ∧ PushEffect s t (s.pc + 1)
    ∧ t.pc = BitVec.ofNat 16 (8 * n.val)
    ∧ Frame s t [] [] [spAddr (spAdd s.sp (-1)), spAddr (spAdd s.sp (-2))]

/-- A `CALL`, or an `RST`, with a `RET` right after it: `PC` at the instruction after the call and the stack pointer as
before, 0 as 0x10000 (decision D4). -/
def Obligations.CallThenReturn : Prop :=
  ∀ s : State,
    (∀ a16, ∃ t u, exec (.call a16) s = .next t ∧ exec .ret t = .next u ∧ u.pc = s.pc + 3
      ∧ u.sp = (if s.sp = 0 then 0x10000 else s.sp))
      ∧ ∀ n, ∃ t u, exec (.rst n) s = .next t ∧ exec .ret t = .next u ∧ u.pc = s.pc + 1
        ∧ u.sp = (if s.sp = 0 then 0x10000 else s.sp)

/-! ### Ports and machine control -/

/-- `IN` and `OUT`: with a handler attached one access, recorded in order, and for `IN` the handler's answer in the
accumulator, whatever it is (log 4); with none the fault and no other change (decision D19, log 6); and their encodings
(by decision D3, log 9). -/
def Obligations.PortInstructions : Prop :=
  ∀ (s : State) (quit d8 : Byte),
    encode quit (.inp d8) = [0xDB, d8] ∧ encode quit (.out d8) = [0xD3, d8]
      ∧ (∀ h, s.portHandler = some h →
        (∃ t, exec (.inp d8) s = .next t ∧ t.a = Config.portIn h s.portLog d8
          ∧ t.portLog = s.portLog ++ [.read d8 (Config.portIn h s.portLog d8)]
          ∧ RegsKept s t [.a] ∧ FlagsKept s t [] ∧ CellsKept s t [] ∧ ControlKept s { t with portLog := s.portLog }
          ∧ FallsThrough s t 2)
        ∧ ∃ t, exec (.out d8) s = .next t ∧ t.portLog = s.portLog ++ [.write d8 s.a]
          ∧ RegsKept s t [] ∧ FlagsKept s t [] ∧ CellsKept s t [] ∧ ControlKept s { t with portLog := s.portLog }
          ∧ FallsThrough s t 2)
      ∧ (s.portHandler = none →
        exec (.inp d8) s = .next { s with fault := some .missingPortHandler }
          ∧ exec (.out d8) s = .next { s with fault := some .missingPortHandler })

/-- `NOP` moves on (general knowledge, G5); `HLT` halts; `EI` sets and `DI` clears `IE`; `QUIT` ends the run (its later
steps by decision D20). Each moves past itself and changes nothing else. -/
def Obligations.MachineControlInstructions : Prop :=
  ∀ s : State,
    exec .nop s = .next { s with pc := s.pc + 1 }
      ∧ exec .hlt s = .next { s with pc := s.pc + 1, halted := true }
      ∧ exec .ei s = .next { s with pc := s.pc + 1, ie := true }
      ∧ exec .di s = .next { s with pc := s.pc + 1, ie := false }
      ∧ exec .quit s = .next { s with pc := s.pc + 1, stopped := true }

/-! ### Rules of the whole machine -/

/-- Only `EI` and `DI` change `IE` in a step, only `HLT` halts, only `QUIT` ends a run, only `IN` and `OUT` touch the
ports; no step attaches a handler or changes the image length. -/
def Obligations.WhoTouchesControlState : Prop :=
  ∀ (p : Parameters) (s t : State), stepWith p s = .next t → ∃ i rest,
    decodeBytes p.quitOpcode [s.memRead s.pc, s.memRead (s.pc + 1), s.memRead (s.pc + 2)] = .ok (i, rest)
      ∧ (t.ie ≠ s.ie → i = .ei ∨ i = .di)
      ∧ (t.halted ≠ s.halted → i = .hlt)
      ∧ (t.stopped ≠ s.stopped → i = .quit)
      ∧ (t.portLog ≠ s.portLog → ∃ d8, i = .inp d8 ∨ i = .out d8)
      ∧ t.portHandler = s.portHandler ∧ t.imageLen = s.imageLen

/-- The cycle counter is informational: with other costs, and from another value of it, a step answers the same but
for the counter. -/
def Obligations.CyclesAreInformational : Prop :=
  ∀ (p q : Parameters) (s t : State), p.quitOpcode = q.quitOpcode → SameButCycles s t →
    OutSameButCycles (stepWith p s) (stepWith q t)

/-- `Load`: the image from address 0 on, the rest of memory as it was, `PC` at 0, the length recorded, nothing else
(decision D23); an image longer than the memory is refused (D24). -/
def Obligations.LoadProgram : Prop :=
  ∀ (s : State) (image : List Byte),
    (image.length ≤ 65536 → ∃ t, hostMove (.load image) s = .next t
      ∧ (∀ a : Word, t.memRead a = (image[a.toNat]?).getD (s.memRead a))
      ∧ t = { s with mem := t.mem, pc := 0x0000, imageLen := image.length })
      ∧ (65536 < image.length → hostMove (.load image) s = .refused (.imageTooLong image.length))

/-- Run-mode is the loop of steps while there is no fault, no stop, no halt and `PC` is below the image length
(decision D28): within the steps allowed it ends in a state exactly when the loop comes to that state and its test
fails there, and it is unfinished in a state exactly when all the steps allowed lead there and the test still holds.
That the steps are bounded is the model's choice (log 19). A step-mode invocation returns what one step answers; a
run-mode invocation returns the state the loop ended in, or is unfinished. -/
def Obligations.RunModeIsTheLoop : Prop :=
  (∀ (p : Parameters) (fuel : Nat) (s t : State),
    (runModeWith p fuel s = .ended t ↔ ∃ n ≤ fuel, LoopReaches p n s t ∧ ¬LoopTest t)
      ∧ (runModeWith p fuel s = .unfinished t ↔ LoopReaches p fuel s t ∧ LoopTest t)
      ∧ (runModeWith p fuel s = .ended t → invokeWith p false fuel s = .returned (.next t))
      ∧ (runModeWith p fuel s = .unfinished t → invokeWith p false fuel s = .unfinished t)
      ∧ invokeWith p true fuel s = .returned (stepWith p s))
    ∧ (∀ fuel s, runMode fuel s = runModeWith workingParameters fuel s)
    ∧ (∀ stepMode fuel s, invoke stepMode fuel s = invokeWith workingParameters stepMode fuel s)
    ∧ Sys2Proof.core = coreWith workingParameters
end

