-- ==== Sys2Proof/Laws/State.lean ====
section
/-! SUPPORT. The small lemmas of the state: one per field per update. -/

namespace Sys2Proof.Machine


/-! ### `setReg` -/

@[simp] theorem State.setReg_f (s : State) (r : Reg) (v : Byte) : (s.setReg r v).f = s.f := by cases r <;> rfl
@[simp] theorem State.setReg_pc (s : State) (r : Reg) (v : Byte) : (s.setReg r v).pc = s.pc := by cases r <;> rfl
@[simp] theorem State.setReg_sp (s : State) (r : Reg) (v : Byte) : (s.setReg r v).sp = s.sp := by cases r <;> rfl
@[simp] theorem State.setReg_mem (s : State) (r : Reg) (v : Byte) : (s.setReg r v).mem = s.mem := by cases r <;> rfl
@[simp] theorem State.setReg_cyc (s : State) (r : Reg) (v : Byte) : (s.setReg r v).cyc = s.cyc := by cases r <;> rfl
@[simp] theorem State.setReg_latch (s : State) (r : Reg) (v : Byte) : (s.setReg r v).latch = s.latch := by cases r <;> rfl
@[simp] theorem State.setReg_halted (s : State) (r : Reg) (v : Byte) : (s.setReg r v).halted = s.halted := by cases r <;> rfl
@[simp] theorem State.setReg_ie (s : State) (r : Reg) (v : Byte) : (s.setReg r v).ie = s.ie := by cases r <;> rfl
@[simp] theorem State.setReg_stopped (s : State) (r : Reg) (v : Byte) : (s.setReg r v).stopped = s.stopped := by cases r <;> rfl
@[simp] theorem State.setReg_fault (s : State) (r : Reg) (v : Byte) : (s.setReg r v).fault = s.fault := by cases r <;> rfl
@[simp] theorem State.setReg_portHandler (s : State) (r : Reg) (v : Byte) : (s.setReg r v).portHandler = s.portHandler := by cases r <;> rfl
@[simp] theorem State.setReg_imageLen (s : State) (r : Reg) (v : Byte) : (s.setReg r v).imageLen = s.imageLen := by cases r <;> rfl
@[simp] theorem State.setReg_portLog (s : State) (r : Reg) (v : Byte) : (s.setReg r v).portLog = s.portLog := by cases r <;> rfl

/-! ### `setPair` -/

@[simp] theorem State.setPair_a (s : State) (p : Pair) (v : Word) : (s.setPair p v).a = s.a := by cases p <;> rfl
@[simp] theorem State.setPair_f (s : State) (p : Pair) (v : Word) : (s.setPair p v).f = s.f := by cases p <;> rfl
@[simp] theorem State.setPair_pc (s : State) (p : Pair) (v : Word) : (s.setPair p v).pc = s.pc := by cases p <;> rfl
@[simp] theorem State.setPair_sp (s : State) (p : Pair) (v : Word) : (s.setPair p v).sp = s.sp := by cases p <;> rfl
@[simp] theorem State.setPair_mem (s : State) (p : Pair) (v : Word) : (s.setPair p v).mem = s.mem := by cases p <;> rfl
@[simp] theorem State.setPair_cyc (s : State) (p : Pair) (v : Word) : (s.setPair p v).cyc = s.cyc := by cases p <;> rfl
@[simp] theorem State.setPair_latch (s : State) (p : Pair) (v : Word) : (s.setPair p v).latch = s.latch := by cases p <;> rfl
@[simp] theorem State.setPair_halted (s : State) (p : Pair) (v : Word) : (s.setPair p v).halted = s.halted := by cases p <;> rfl
@[simp] theorem State.setPair_ie (s : State) (p : Pair) (v : Word) : (s.setPair p v).ie = s.ie := by cases p <;> rfl
@[simp] theorem State.setPair_stopped (s : State) (p : Pair) (v : Word) : (s.setPair p v).stopped = s.stopped := by cases p <;> rfl
@[simp] theorem State.setPair_fault (s : State) (p : Pair) (v : Word) : (s.setPair p v).fault = s.fault := by cases p <;> rfl
@[simp] theorem State.setPair_portHandler (s : State) (p : Pair) (v : Word) : (s.setPair p v).portHandler = s.portHandler := by cases p <;> rfl
@[simp] theorem State.setPair_imageLen (s : State) (p : Pair) (v : Word) : (s.setPair p v).imageLen = s.imageLen := by cases p <;> rfl
@[simp] theorem State.setPair_portLog (s : State) (p : Pair) (v : Word) : (s.setPair p v).portLog = s.portLog := by cases p <;> rfl

/-! ### `memWrite` -/

@[simp] theorem State.memWrite_a (s : State) (x : Word) (v : Byte) : (s.memWrite x v).a = s.a := rfl
@[simp] theorem State.memWrite_f (s : State) (x : Word) (v : Byte) : (s.memWrite x v).f = s.f := rfl
@[simp] theorem State.memWrite_b (s : State) (x : Word) (v : Byte) : (s.memWrite x v).b = s.b := rfl
@[simp] theorem State.memWrite_c (s : State) (x : Word) (v : Byte) : (s.memWrite x v).c = s.c := rfl
@[simp] theorem State.memWrite_d (s : State) (x : Word) (v : Byte) : (s.memWrite x v).d = s.d := rfl
@[simp] theorem State.memWrite_e (s : State) (x : Word) (v : Byte) : (s.memWrite x v).e = s.e := rfl
@[simp] theorem State.memWrite_h (s : State) (x : Word) (v : Byte) : (s.memWrite x v).h = s.h := rfl
@[simp] theorem State.memWrite_l (s : State) (x : Word) (v : Byte) : (s.memWrite x v).l = s.l := rfl
@[simp] theorem State.memWrite_pc (s : State) (x : Word) (v : Byte) : (s.memWrite x v).pc = s.pc := rfl
@[simp] theorem State.memWrite_sp (s : State) (x : Word) (v : Byte) : (s.memWrite x v).sp = s.sp := rfl
@[simp] theorem State.memWrite_mem (s : State) (x : Word) (v : Byte) : (s.memWrite x v).mem = s.mem.write x.toNat v := rfl
@[simp] theorem State.memWrite_cyc (s : State) (x : Word) (v : Byte) : (s.memWrite x v).cyc = s.cyc := rfl
@[simp] theorem State.memWrite_latch (s : State) (x : Word) (v : Byte) : (s.memWrite x v).latch = s.latch := rfl
@[simp] theorem State.memWrite_halted (s : State) (x : Word) (v : Byte) : (s.memWrite x v).halted = s.halted := rfl
@[simp] theorem State.memWrite_ie (s : State) (x : Word) (v : Byte) : (s.memWrite x v).ie = s.ie := rfl
@[simp] theorem State.memWrite_stopped (s : State) (x : Word) (v : Byte) : (s.memWrite x v).stopped = s.stopped := rfl
@[simp] theorem State.memWrite_fault (s : State) (x : Word) (v : Byte) : (s.memWrite x v).fault = s.fault := rfl
@[simp] theorem State.memWrite_portHandler (s : State) (x : Word) (v : Byte) : (s.memWrite x v).portHandler = s.portHandler := rfl
@[simp] theorem State.memWrite_imageLen (s : State) (x : Word) (v : Byte) : (s.memWrite x v).imageLen = s.imageLen := rfl
@[simp] theorem State.memWrite_portLog (s : State) (x : Word) (v : Byte) : (s.memWrite x v).portLog = s.portLog := rfl

/-! ### `memWrite16` -/

@[simp] theorem State.memWrite16_a (s : State) (x v : Word) : (s.memWrite16 x v).a = s.a := rfl
@[simp] theorem State.memWrite16_f (s : State) (x v : Word) : (s.memWrite16 x v).f = s.f := rfl
@[simp] theorem State.memWrite16_b (s : State) (x v : Word) : (s.memWrite16 x v).b = s.b := rfl
@[simp] theorem State.memWrite16_c (s : State) (x v : Word) : (s.memWrite16 x v).c = s.c := rfl
@[simp] theorem State.memWrite16_d (s : State) (x v : Word) : (s.memWrite16 x v).d = s.d := rfl
@[simp] theorem State.memWrite16_e (s : State) (x v : Word) : (s.memWrite16 x v).e = s.e := rfl
@[simp] theorem State.memWrite16_h (s : State) (x v : Word) : (s.memWrite16 x v).h = s.h := rfl
@[simp] theorem State.memWrite16_l (s : State) (x v : Word) : (s.memWrite16 x v).l = s.l := rfl
@[simp] theorem State.memWrite16_pc (s : State) (x v : Word) : (s.memWrite16 x v).pc = s.pc := rfl
@[simp] theorem State.memWrite16_sp (s : State) (x v : Word) : (s.memWrite16 x v).sp = s.sp := rfl
@[simp] theorem State.memWrite16_mem (s : State) (x v : Word) : (s.memWrite16 x v).mem = (s.mem.write x.toNat (loByte v)).write (x + 1).toNat (hiByte v) := rfl
@[simp] theorem State.memWrite16_cyc (s : State) (x v : Word) : (s.memWrite16 x v).cyc = s.cyc := rfl
@[simp] theorem State.memWrite16_latch (s : State) (x v : Word) : (s.memWrite16 x v).latch = s.latch := rfl
@[simp] theorem State.memWrite16_halted (s : State) (x v : Word) : (s.memWrite16 x v).halted = s.halted := rfl
@[simp] theorem State.memWrite16_ie (s : State) (x v : Word) : (s.memWrite16 x v).ie = s.ie := rfl
@[simp] theorem State.memWrite16_stopped (s : State) (x v : Word) : (s.memWrite16 x v).stopped = s.stopped := rfl
@[simp] theorem State.memWrite16_fault (s : State) (x v : Word) : (s.memWrite16 x v).fault = s.fault := rfl
@[simp] theorem State.memWrite16_portHandler (s : State) (x v : Word) : (s.memWrite16 x v).portHandler = s.portHandler := rfl
@[simp] theorem State.memWrite16_imageLen (s : State) (x v : Word) : (s.memWrite16 x v).imageLen = s.imageLen := rfl
@[simp] theorem State.memWrite16_portLog (s : State) (x v : Word) : (s.memWrite16 x v).portLog = s.portLog := rfl

/-! ### `advance` -/

@[simp] theorem State.advance_a (s : State) (n : Nat) : (s.advance n).a = s.a := rfl
@[simp] theorem State.advance_f (s : State) (n : Nat) : (s.advance n).f = s.f := rfl
@[simp] theorem State.advance_b (s : State) (n : Nat) : (s.advance n).b = s.b := rfl
@[simp] theorem State.advance_c (s : State) (n : Nat) : (s.advance n).c = s.c := rfl
@[simp] theorem State.advance_d (s : State) (n : Nat) : (s.advance n).d = s.d := rfl
@[simp] theorem State.advance_e (s : State) (n : Nat) : (s.advance n).e = s.e := rfl
@[simp] theorem State.advance_h (s : State) (n : Nat) : (s.advance n).h = s.h := rfl
@[simp] theorem State.advance_l (s : State) (n : Nat) : (s.advance n).l = s.l := rfl
@[simp] theorem State.advance_pc (s : State) (n : Nat) : (s.advance n).pc = s.pc + BitVec.ofNat 16 n := rfl
@[simp] theorem State.advance_sp (s : State) (n : Nat) : (s.advance n).sp = s.sp := rfl
@[simp] theorem State.advance_mem (s : State) (n : Nat) : (s.advance n).mem = s.mem := rfl
@[simp] theorem State.advance_cyc (s : State) (n : Nat) : (s.advance n).cyc = s.cyc := rfl
@[simp] theorem State.advance_latch (s : State) (n : Nat) : (s.advance n).latch = s.latch := rfl
@[simp] theorem State.advance_halted (s : State) (n : Nat) : (s.advance n).halted = s.halted := rfl
@[simp] theorem State.advance_ie (s : State) (n : Nat) : (s.advance n).ie = s.ie := rfl
@[simp] theorem State.advance_stopped (s : State) (n : Nat) : (s.advance n).stopped = s.stopped := rfl
@[simp] theorem State.advance_fault (s : State) (n : Nat) : (s.advance n).fault = s.fault := rfl
@[simp] theorem State.advance_portHandler (s : State) (n : Nat) : (s.advance n).portHandler = s.portHandler := rfl
@[simp] theorem State.advance_imageLen (s : State) (n : Nat) : (s.advance n).imageLen = s.imageLen := rfl
@[simp] theorem State.advance_portLog (s : State) (n : Nat) : (s.advance n).portLog = s.portLog := rfl

/-! ### `push16` -/

@[simp] theorem State.push16_a (s : State) (v : Word) : (s.push16 v).a = s.a := rfl
@[simp] theorem State.push16_f (s : State) (v : Word) : (s.push16 v).f = s.f := rfl
@[simp] theorem State.push16_b (s : State) (v : Word) : (s.push16 v).b = s.b := rfl
@[simp] theorem State.push16_c (s : State) (v : Word) : (s.push16 v).c = s.c := rfl
@[simp] theorem State.push16_d (s : State) (v : Word) : (s.push16 v).d = s.d := rfl
@[simp] theorem State.push16_e (s : State) (v : Word) : (s.push16 v).e = s.e := rfl
@[simp] theorem State.push16_h (s : State) (v : Word) : (s.push16 v).h = s.h := rfl
@[simp] theorem State.push16_l (s : State) (v : Word) : (s.push16 v).l = s.l := rfl
@[simp] theorem State.push16_pc (s : State) (v : Word) : (s.push16 v).pc = s.pc := rfl
@[simp] theorem State.push16_sp (s : State) (v : Word) : (s.push16 v).sp = spAdd s.sp (-2) := rfl
@[simp] theorem State.push16_cyc (s : State) (v : Word) : (s.push16 v).cyc = s.cyc := rfl
@[simp] theorem State.push16_latch (s : State) (v : Word) : (s.push16 v).latch = s.latch := rfl
@[simp] theorem State.push16_halted (s : State) (v : Word) : (s.push16 v).halted = s.halted := rfl
@[simp] theorem State.push16_ie (s : State) (v : Word) : (s.push16 v).ie = s.ie := rfl
@[simp] theorem State.push16_stopped (s : State) (v : Word) : (s.push16 v).stopped = s.stopped := rfl
@[simp] theorem State.push16_fault (s : State) (v : Word) : (s.push16 v).fault = s.fault := rfl
@[simp] theorem State.push16_portHandler (s : State) (v : Word) : (s.push16 v).portHandler = s.portHandler := rfl
@[simp] theorem State.push16_imageLen (s : State) (v : Word) : (s.push16 v).imageLen = s.imageLen := rfl
@[simp] theorem State.push16_portLog (s : State) (v : Word) : (s.push16 v).portLog = s.portLog := rfl

/-! ### `dropTop` -/

@[simp] theorem State.dropTop_a (s : State) : (s.dropTop).a = s.a := rfl
@[simp] theorem State.dropTop_f (s : State) : (s.dropTop).f = s.f := rfl
@[simp] theorem State.dropTop_b (s : State) : (s.dropTop).b = s.b := rfl
@[simp] theorem State.dropTop_c (s : State) : (s.dropTop).c = s.c := rfl
@[simp] theorem State.dropTop_d (s : State) : (s.dropTop).d = s.d := rfl
@[simp] theorem State.dropTop_e (s : State) : (s.dropTop).e = s.e := rfl
@[simp] theorem State.dropTop_h (s : State) : (s.dropTop).h = s.h := rfl
@[simp] theorem State.dropTop_l (s : State) : (s.dropTop).l = s.l := rfl
@[simp] theorem State.dropTop_pc (s : State) : (s.dropTop).pc = s.pc := rfl
@[simp] theorem State.dropTop_sp (s : State) : (s.dropTop).sp = spAdd s.sp 2 := rfl
@[simp] theorem State.dropTop_mem (s : State) : (s.dropTop).mem = s.mem := rfl
@[simp] theorem State.dropTop_cyc (s : State) : (s.dropTop).cyc = s.cyc := rfl
@[simp] theorem State.dropTop_latch (s : State) : (s.dropTop).latch = s.latch := rfl
@[simp] theorem State.dropTop_halted (s : State) : (s.dropTop).halted = s.halted := rfl
@[simp] theorem State.dropTop_ie (s : State) : (s.dropTop).ie = s.ie := rfl
@[simp] theorem State.dropTop_stopped (s : State) : (s.dropTop).stopped = s.stopped := rfl
@[simp] theorem State.dropTop_fault (s : State) : (s.dropTop).fault = s.fault := rfl
@[simp] theorem State.dropTop_portHandler (s : State) : (s.dropTop).portHandler = s.portHandler := rfl
@[simp] theorem State.dropTop_imageLen (s : State) : (s.dropTop).imageLen = s.imageLen := rfl
@[simp] theorem State.dropTop_portLog (s : State) : (s.dropTop).portLog = s.portLog := rfl

/-! ### `call` -/

@[simp] theorem State.call_a (s : State) (w x : Word) : (s.call w x).a = s.a := rfl
@[simp] theorem State.call_f (s : State) (w x : Word) : (s.call w x).f = s.f := rfl
@[simp] theorem State.call_b (s : State) (w x : Word) : (s.call w x).b = s.b := rfl
@[simp] theorem State.call_c (s : State) (w x : Word) : (s.call w x).c = s.c := rfl
@[simp] theorem State.call_d (s : State) (w x : Word) : (s.call w x).d = s.d := rfl
@[simp] theorem State.call_e (s : State) (w x : Word) : (s.call w x).e = s.e := rfl
@[simp] theorem State.call_h (s : State) (w x : Word) : (s.call w x).h = s.h := rfl
@[simp] theorem State.call_l (s : State) (w x : Word) : (s.call w x).l = s.l := rfl
@[simp] theorem State.call_pc (s : State) (w x : Word) : (s.call w x).pc = x := rfl
@[simp] theorem State.call_sp (s : State) (w x : Word) : (s.call w x).sp = spAdd s.sp (-2) := rfl
@[simp] theorem State.call_mem (s : State) (w x : Word) : (s.call w x).mem = (s.push16 w).mem := rfl
@[simp] theorem State.call_cyc (s : State) (w x : Word) : (s.call w x).cyc = s.cyc := rfl
@[simp] theorem State.call_latch (s : State) (w x : Word) : (s.call w x).latch = s.latch := rfl
@[simp] theorem State.call_halted (s : State) (w x : Word) : (s.call w x).halted = s.halted := rfl
@[simp] theorem State.call_ie (s : State) (w x : Word) : (s.call w x).ie = s.ie := rfl
@[simp] theorem State.call_stopped (s : State) (w x : Word) : (s.call w x).stopped = s.stopped := rfl
@[simp] theorem State.call_fault (s : State) (w x : Word) : (s.call w x).fault = s.fault := rfl
@[simp] theorem State.call_portHandler (s : State) (w x : Word) : (s.call w x).portHandler = s.portHandler := rfl
@[simp] theorem State.call_imageLen (s : State) (w x : Word) : (s.call w x).imageLen = s.imageLen := rfl
@[simp] theorem State.call_portLog (s : State) (w x : Word) : (s.call w x).portLog = s.portLog := rfl

/-! ### `ret` -/

@[simp] theorem State.ret_a (s : State) : (s.ret).a = s.a := rfl
@[simp] theorem State.ret_f (s : State) : (s.ret).f = s.f := rfl
@[simp] theorem State.ret_b (s : State) : (s.ret).b = s.b := rfl
@[simp] theorem State.ret_c (s : State) : (s.ret).c = s.c := rfl
@[simp] theorem State.ret_d (s : State) : (s.ret).d = s.d := rfl
@[simp] theorem State.ret_e (s : State) : (s.ret).e = s.e := rfl
@[simp] theorem State.ret_h (s : State) : (s.ret).h = s.h := rfl
@[simp] theorem State.ret_l (s : State) : (s.ret).l = s.l := rfl
@[simp] theorem State.ret_pc (s : State) : (s.ret).pc = s.stackTop := rfl
@[simp] theorem State.ret_sp (s : State) : (s.ret).sp = spAdd s.sp 2 := rfl
@[simp] theorem State.ret_mem (s : State) : (s.ret).mem = s.mem := rfl
@[simp] theorem State.ret_cyc (s : State) : (s.ret).cyc = s.cyc := rfl
@[simp] theorem State.ret_latch (s : State) : (s.ret).latch = s.latch := rfl
@[simp] theorem State.ret_halted (s : State) : (s.ret).halted = s.halted := rfl
@[simp] theorem State.ret_ie (s : State) : (s.ret).ie = s.ie := rfl
@[simp] theorem State.ret_stopped (s : State) : (s.ret).stopped = s.stopped := rfl
@[simp] theorem State.ret_fault (s : State) : (s.ret).fault = s.fault := rfl
@[simp] theorem State.ret_portHandler (s : State) : (s.ret).portHandler = s.portHandler := rfl
@[simp] theorem State.ret_imageLen (s : State) : (s.ret).imageLen = s.imageLen := rfl
@[simp] theorem State.ret_portLog (s : State) : (s.ret).portLog = s.portLog := rfl

/-! ### `raise` -/

@[simp] theorem State.raise_a (s : State) (r : Fault) : (s.raise r).a = s.a := rfl
@[simp] theorem State.raise_f (s : State) (r : Fault) : (s.raise r).f = s.f := rfl
@[simp] theorem State.raise_b (s : State) (r : Fault) : (s.raise r).b = s.b := rfl
@[simp] theorem State.raise_c (s : State) (r : Fault) : (s.raise r).c = s.c := rfl
@[simp] theorem State.raise_d (s : State) (r : Fault) : (s.raise r).d = s.d := rfl
@[simp] theorem State.raise_e (s : State) (r : Fault) : (s.raise r).e = s.e := rfl
@[simp] theorem State.raise_h (s : State) (r : Fault) : (s.raise r).h = s.h := rfl
@[simp] theorem State.raise_l (s : State) (r : Fault) : (s.raise r).l = s.l := rfl
@[simp] theorem State.raise_pc (s : State) (r : Fault) : (s.raise r).pc = s.pc := rfl
@[simp] theorem State.raise_sp (s : State) (r : Fault) : (s.raise r).sp = s.sp := rfl
@[simp] theorem State.raise_mem (s : State) (r : Fault) : (s.raise r).mem = s.mem := rfl
@[simp] theorem State.raise_cyc (s : State) (r : Fault) : (s.raise r).cyc = s.cyc := rfl
@[simp] theorem State.raise_latch (s : State) (r : Fault) : (s.raise r).latch = s.latch := rfl
@[simp] theorem State.raise_halted (s : State) (r : Fault) : (s.raise r).halted = s.halted := rfl
@[simp] theorem State.raise_ie (s : State) (r : Fault) : (s.raise r).ie = s.ie := rfl
@[simp] theorem State.raise_stopped (s : State) (r : Fault) : (s.raise r).stopped = s.stopped := rfl
@[simp] theorem State.raise_fault (s : State) (r : Fault) : (s.raise r).fault = some r := rfl
@[simp] theorem State.raise_portHandler (s : State) (r : Fault) : (s.raise r).portHandler = s.portHandler := rfl
@[simp] theorem State.raise_imageLen (s : State) (r : Fault) : (s.raise r).imageLen = s.imageLen := rfl
@[simp] theorem State.raise_portLog (s : State) (r : Fault) : (s.raise r).portLog = s.portLog := rfl

/-! ### `acceptInterrupt` -/

@[simp] theorem State.acceptInterrupt_a (s : State) (x : Word) : (s.acceptInterrupt x).a = s.a := rfl
@[simp] theorem State.acceptInterrupt_f (s : State) (x : Word) : (s.acceptInterrupt x).f = s.f := rfl
@[simp] theorem State.acceptInterrupt_b (s : State) (x : Word) : (s.acceptInterrupt x).b = s.b := rfl
@[simp] theorem State.acceptInterrupt_c (s : State) (x : Word) : (s.acceptInterrupt x).c = s.c := rfl
@[simp] theorem State.acceptInterrupt_d (s : State) (x : Word) : (s.acceptInterrupt x).d = s.d := rfl
@[simp] theorem State.acceptInterrupt_e (s : State) (x : Word) : (s.acceptInterrupt x).e = s.e := rfl
@[simp] theorem State.acceptInterrupt_h (s : State) (x : Word) : (s.acceptInterrupt x).h = s.h := rfl
@[simp] theorem State.acceptInterrupt_l (s : State) (x : Word) : (s.acceptInterrupt x).l = s.l := rfl
@[simp] theorem State.acceptInterrupt_pc (s : State) (x : Word) : (s.acceptInterrupt x).pc = s.pc := rfl
@[simp] theorem State.acceptInterrupt_sp (s : State) (x : Word) : (s.acceptInterrupt x).sp = spAdd s.sp (-2) := rfl
@[simp] theorem State.acceptInterrupt_mem (s : State) (x : Word) : (s.acceptInterrupt x).mem = (s.push16 s.pc).mem := rfl
@[simp] theorem State.acceptInterrupt_cyc (s : State) (x : Word) : (s.acceptInterrupt x).cyc = s.cyc := rfl
@[simp] theorem State.acceptInterrupt_latch (s : State) (x : Word) : (s.acceptInterrupt x).latch = some x := rfl
@[simp] theorem State.acceptInterrupt_halted (s : State) (x : Word) : (s.acceptInterrupt x).halted = false := rfl
@[simp] theorem State.acceptInterrupt_ie (s : State) (x : Word) : (s.acceptInterrupt x).ie = false := rfl
@[simp] theorem State.acceptInterrupt_stopped (s : State) (x : Word) : (s.acceptInterrupt x).stopped = s.stopped := rfl
@[simp] theorem State.acceptInterrupt_fault (s : State) (x : Word) : (s.acceptInterrupt x).fault = s.fault := rfl
@[simp] theorem State.acceptInterrupt_portHandler (s : State) (x : Word) : (s.acceptInterrupt x).portHandler = s.portHandler := rfl
@[simp] theorem State.acceptInterrupt_imageLen (s : State) (x : Word) : (s.acceptInterrupt x).imageLen = s.imageLen := rfl
@[simp] theorem State.acceptInterrupt_portLog (s : State) (x : Word) : (s.acceptInterrupt x).portLog = s.portLog := rfl

/-! ### `serviceInterrupt` -/

@[simp] theorem State.serviceInterrupt_a (s : State) (n : Nat) (x : Word) : (s.serviceInterrupt n x).a = s.a := rfl
@[simp] theorem State.serviceInterrupt_f (s : State) (n : Nat) (x : Word) : (s.serviceInterrupt n x).f = s.f := rfl
@[simp] theorem State.serviceInterrupt_b (s : State) (n : Nat) (x : Word) : (s.serviceInterrupt n x).b = s.b := rfl
@[simp] theorem State.serviceInterrupt_c (s : State) (n : Nat) (x : Word) : (s.serviceInterrupt n x).c = s.c := rfl
@[simp] theorem State.serviceInterrupt_d (s : State) (n : Nat) (x : Word) : (s.serviceInterrupt n x).d = s.d := rfl
@[simp] theorem State.serviceInterrupt_e (s : State) (n : Nat) (x : Word) : (s.serviceInterrupt n x).e = s.e := rfl
@[simp] theorem State.serviceInterrupt_h (s : State) (n : Nat) (x : Word) : (s.serviceInterrupt n x).h = s.h := rfl
@[simp] theorem State.serviceInterrupt_l (s : State) (n : Nat) (x : Word) : (s.serviceInterrupt n x).l = s.l := rfl
@[simp] theorem State.serviceInterrupt_pc (s : State) (n : Nat) (x : Word) : (s.serviceInterrupt n x).pc = x := rfl
@[simp] theorem State.serviceInterrupt_sp (s : State) (n : Nat) (x : Word) : (s.serviceInterrupt n x).sp = s.sp := rfl
@[simp] theorem State.serviceInterrupt_mem (s : State) (n : Nat) (x : Word) : (s.serviceInterrupt n x).mem = s.mem := rfl
@[simp] theorem State.serviceInterrupt_cyc (s : State) (n : Nat) (x : Word) : (s.serviceInterrupt n x).cyc = s.cyc + n := rfl
@[simp] theorem State.serviceInterrupt_latch (s : State) (n : Nat) (x : Word) : (s.serviceInterrupt n x).latch = none := rfl
@[simp] theorem State.serviceInterrupt_halted (s : State) (n : Nat) (x : Word) : (s.serviceInterrupt n x).halted = s.halted := rfl
@[simp] theorem State.serviceInterrupt_ie (s : State) (n : Nat) (x : Word) : (s.serviceInterrupt n x).ie = s.ie := rfl
@[simp] theorem State.serviceInterrupt_stopped (s : State) (n : Nat) (x : Word) : (s.serviceInterrupt n x).stopped = s.stopped := rfl
@[simp] theorem State.serviceInterrupt_fault (s : State) (n : Nat) (x : Word) : (s.serviceInterrupt n x).fault = s.fault := rfl
@[simp] theorem State.serviceInterrupt_portHandler (s : State) (n : Nat) (x : Word) : (s.serviceInterrupt n x).portHandler = s.portHandler := rfl
@[simp] theorem State.serviceInterrupt_imageLen (s : State) (n : Nat) (x : Word) : (s.serviceInterrupt n x).imageLen = s.imageLen := rfl
@[simp] theorem State.serviceInterrupt_portLog (s : State) (n : Nat) (x : Word) : (s.serviceInterrupt n x).portLog = s.portLog := rfl

/-! ### `logPort` -/

@[simp] theorem State.logPort_a (s : State) (x : PortAccess) : (s.logPort x).a = s.a := rfl
@[simp] theorem State.logPort_f (s : State) (x : PortAccess) : (s.logPort x).f = s.f := rfl
@[simp] theorem State.logPort_b (s : State) (x : PortAccess) : (s.logPort x).b = s.b := rfl
@[simp] theorem State.logPort_c (s : State) (x : PortAccess) : (s.logPort x).c = s.c := rfl
@[simp] theorem State.logPort_d (s : State) (x : PortAccess) : (s.logPort x).d = s.d := rfl
@[simp] theorem State.logPort_e (s : State) (x : PortAccess) : (s.logPort x).e = s.e := rfl
@[simp] theorem State.logPort_h (s : State) (x : PortAccess) : (s.logPort x).h = s.h := rfl
@[simp] theorem State.logPort_l (s : State) (x : PortAccess) : (s.logPort x).l = s.l := rfl
@[simp] theorem State.logPort_pc (s : State) (x : PortAccess) : (s.logPort x).pc = s.pc := rfl
@[simp] theorem State.logPort_sp (s : State) (x : PortAccess) : (s.logPort x).sp = s.sp := rfl
@[simp] theorem State.logPort_mem (s : State) (x : PortAccess) : (s.logPort x).mem = s.mem := rfl
@[simp] theorem State.logPort_cyc (s : State) (x : PortAccess) : (s.logPort x).cyc = s.cyc := rfl
@[simp] theorem State.logPort_latch (s : State) (x : PortAccess) : (s.logPort x).latch = s.latch := rfl
@[simp] theorem State.logPort_halted (s : State) (x : PortAccess) : (s.logPort x).halted = s.halted := rfl
@[simp] theorem State.logPort_ie (s : State) (x : PortAccess) : (s.logPort x).ie = s.ie := rfl
@[simp] theorem State.logPort_stopped (s : State) (x : PortAccess) : (s.logPort x).stopped = s.stopped := rfl
@[simp] theorem State.logPort_fault (s : State) (x : PortAccess) : (s.logPort x).fault = s.fault := rfl
@[simp] theorem State.logPort_portHandler (s : State) (x : PortAccess) : (s.logPort x).portHandler = s.portHandler := rfl
@[simp] theorem State.logPort_imageLen (s : State) (x : PortAccess) : (s.logPort x).imageLen = s.imageLen := rfl
@[simp] theorem State.logPort_portLog (s : State) (x : PortAccess) : (s.logPort x).portLog = s.portLog ++ [x] := rfl

/-! ### `setAlu` -/

@[simp] theorem State.setAlu_a (s : State) (r : AluResult) : (s.setAlu r).a = r.value := rfl
@[simp] theorem State.setAlu_f (s : State) (r : AluResult) : (s.setAlu r).f = r.flags := rfl
@[simp] theorem State.setAlu_b (s : State) (r : AluResult) : (s.setAlu r).b = s.b := rfl
@[simp] theorem State.setAlu_c (s : State) (r : AluResult) : (s.setAlu r).c = s.c := rfl
@[simp] theorem State.setAlu_d (s : State) (r : AluResult) : (s.setAlu r).d = s.d := rfl
@[simp] theorem State.setAlu_e (s : State) (r : AluResult) : (s.setAlu r).e = s.e := rfl
@[simp] theorem State.setAlu_h (s : State) (r : AluResult) : (s.setAlu r).h = s.h := rfl
@[simp] theorem State.setAlu_l (s : State) (r : AluResult) : (s.setAlu r).l = s.l := rfl
@[simp] theorem State.setAlu_pc (s : State) (r : AluResult) : (s.setAlu r).pc = s.pc := rfl
@[simp] theorem State.setAlu_sp (s : State) (r : AluResult) : (s.setAlu r).sp = s.sp := rfl
@[simp] theorem State.setAlu_mem (s : State) (r : AluResult) : (s.setAlu r).mem = s.mem := rfl
@[simp] theorem State.setAlu_cyc (s : State) (r : AluResult) : (s.setAlu r).cyc = s.cyc := rfl
@[simp] theorem State.setAlu_latch (s : State) (r : AluResult) : (s.setAlu r).latch = s.latch := rfl
@[simp] theorem State.setAlu_halted (s : State) (r : AluResult) : (s.setAlu r).halted = s.halted := rfl
@[simp] theorem State.setAlu_ie (s : State) (r : AluResult) : (s.setAlu r).ie = s.ie := rfl
@[simp] theorem State.setAlu_stopped (s : State) (r : AluResult) : (s.setAlu r).stopped = s.stopped := rfl
@[simp] theorem State.setAlu_fault (s : State) (r : AluResult) : (s.setAlu r).fault = s.fault := rfl
@[simp] theorem State.setAlu_portHandler (s : State) (r : AluResult) : (s.setAlu r).portHandler = s.portHandler := rfl
@[simp] theorem State.setAlu_imageLen (s : State) (r : AluResult) : (s.setAlu r).imageLen = s.imageLen := rfl
@[simp] theorem State.setAlu_portLog (s : State) (r : AluResult) : (s.setAlu r).portLog = s.portLog := rfl

/-! ### `readyToFetch` -/

@[simp] theorem State.readyToFetch_a (s : State) : (s.readyToFetch).a = s.a := rfl
@[simp] theorem State.readyToFetch_f (s : State) : (s.readyToFetch).f = s.f := rfl
@[simp] theorem State.readyToFetch_b (s : State) : (s.readyToFetch).b = s.b := rfl
@[simp] theorem State.readyToFetch_c (s : State) : (s.readyToFetch).c = s.c := rfl
@[simp] theorem State.readyToFetch_d (s : State) : (s.readyToFetch).d = s.d := rfl
@[simp] theorem State.readyToFetch_e (s : State) : (s.readyToFetch).e = s.e := rfl
@[simp] theorem State.readyToFetch_h (s : State) : (s.readyToFetch).h = s.h := rfl
@[simp] theorem State.readyToFetch_l (s : State) : (s.readyToFetch).l = s.l := rfl
@[simp] theorem State.readyToFetch_pc (s : State) : (s.readyToFetch).pc = s.pc := rfl
@[simp] theorem State.readyToFetch_sp (s : State) : (s.readyToFetch).sp = s.sp := rfl
@[simp] theorem State.readyToFetch_mem (s : State) : (s.readyToFetch).mem = s.mem := rfl
@[simp] theorem State.readyToFetch_cyc (s : State) : (s.readyToFetch).cyc = s.cyc := rfl
@[simp] theorem State.readyToFetch_latch (s : State) : (s.readyToFetch).latch = none := rfl
@[simp] theorem State.readyToFetch_halted (s : State) : (s.readyToFetch).halted = false := rfl
@[simp] theorem State.readyToFetch_ie (s : State) : (s.readyToFetch).ie = s.ie := rfl
@[simp] theorem State.readyToFetch_stopped (s : State) : (s.readyToFetch).stopped = false := rfl
@[simp] theorem State.readyToFetch_fault (s : State) : (s.readyToFetch).fault = none := rfl
@[simp] theorem State.readyToFetch_portHandler (s : State) : (s.readyToFetch).portHandler = s.portHandler := rfl
@[simp] theorem State.readyToFetch_imageLen (s : State) : (s.readyToFetch).imageLen = s.imageLen := rfl
@[simp] theorem State.readyToFetch_portLog (s : State) : (s.readyToFetch).portLog = s.portLog := rfl

/-! ### The cells read after an update that leaves the memory alone -/

/-- Two states with one memory read alike. -/
theorem State.memRead_of_mem_eq {s t : State} (h : t.mem = s.mem) (x : Word) : t.memRead x = s.memRead x := by
  simp only [State.memRead, h]

@[simp] theorem State.memRead_setReg (s : State) (r : Reg) (v : Byte) (x : Word) : (s.setReg r v).memRead x = s.memRead x :=
  State.memRead_of_mem_eq (by simp) x
@[simp] theorem State.memRead_setPair (s : State) (p : Pair) (v : Word) (x : Word) : (s.setPair p v).memRead x = s.memRead x :=
  State.memRead_of_mem_eq (by simp) x
@[simp] theorem State.memRead_advance (s : State) (n : Nat) (x : Word) : (s.advance n).memRead x = s.memRead x :=
  State.memRead_of_mem_eq (by simp) x
@[simp] theorem State.memRead_dropTop (s : State) (x : Word) : (s.dropTop).memRead x = s.memRead x :=
  State.memRead_of_mem_eq (by simp) x
@[simp] theorem State.memRead_ret (s : State) (x : Word) : (s.ret).memRead x = s.memRead x :=
  State.memRead_of_mem_eq (by simp) x
@[simp] theorem State.memRead_raise (s : State) (r : Fault) (x : Word) : (s.raise r).memRead x = s.memRead x :=
  State.memRead_of_mem_eq (by simp) x
@[simp] theorem State.memRead_setAlu (s : State) (r : AluResult) (x : Word) : (s.setAlu r).memRead x = s.memRead x :=
  State.memRead_of_mem_eq (by simp) x
@[simp] theorem State.memRead_logPort (s : State) (y : PortAccess) (x : Word) : (s.logPort y).memRead x = s.memRead x :=
  State.memRead_of_mem_eq (by simp) x
@[simp] theorem State.memRead_serviceInterrupt (s : State) (n : Nat) (w : Word) (x : Word) : (s.serviceInterrupt n w).memRead x = s.memRead x :=
  State.memRead_of_mem_eq (by simp) x
@[simp] theorem State.memRead_readyToFetch (s : State) (x : Word) : (s.readyToFetch).memRead x = s.memRead x :=
  State.memRead_of_mem_eq (by simp) x

/-! ### Registers after an update that leaves them alone -/

@[simp] theorem State.reg_memWrite (s : State) (x : Word) (v : Byte) (r : Reg) : (s.memWrite x v).reg r = s.reg r := by cases r <;> rfl
@[simp] theorem State.pair_memWrite (s : State) (x : Word) (v : Byte) (p : Pair) : (s.memWrite x v).pair p = s.pair p := by cases p <;> rfl
@[simp] theorem State.reg_memWrite16 (s : State) (x v : Word) (r : Reg) : (s.memWrite16 x v).reg r = s.reg r := by cases r <;> rfl
@[simp] theorem State.pair_memWrite16 (s : State) (x v : Word) (p : Pair) : (s.memWrite16 x v).pair p = s.pair p := by cases p <;> rfl
@[simp] theorem State.reg_advance (s : State) (n : Nat) (r : Reg) : (s.advance n).reg r = s.reg r := by cases r <;> rfl
@[simp] theorem State.pair_advance (s : State) (n : Nat) (p : Pair) : (s.advance n).pair p = s.pair p := by cases p <;> rfl
@[simp] theorem State.reg_push16 (s : State) (v : Word) (r : Reg) : (s.push16 v).reg r = s.reg r := by cases r <;> rfl
@[simp] theorem State.pair_push16 (s : State) (v : Word) (p : Pair) : (s.push16 v).pair p = s.pair p := by cases p <;> rfl
@[simp] theorem State.reg_dropTop (s : State) (r : Reg) : (s.dropTop).reg r = s.reg r := by cases r <;> rfl
@[simp] theorem State.pair_dropTop (s : State) (p : Pair) : (s.dropTop).pair p = s.pair p := by cases p <;> rfl
@[simp] theorem State.reg_call (s : State) (w x : Word) (r : Reg) : (s.call w x).reg r = s.reg r := by cases r <;> rfl
@[simp] theorem State.pair_call (s : State) (w x : Word) (p : Pair) : (s.call w x).pair p = s.pair p := by cases p <;> rfl
@[simp] theorem State.reg_ret (s : State) (r : Reg) : (s.ret).reg r = s.reg r := by cases r <;> rfl
@[simp] theorem State.pair_ret (s : State) (p : Pair) : (s.ret).pair p = s.pair p := by cases p <;> rfl
@[simp] theorem State.reg_raise (s : State) (f : Fault) (r : Reg) : (s.raise f).reg r = s.reg r := by cases r <;> rfl
@[simp] theorem State.pair_raise (s : State) (f : Fault) (p : Pair) : (s.raise f).pair p = s.pair p := by cases p <;> rfl
@[simp] theorem State.reg_logPort (s : State) (x : PortAccess) (r : Reg) : (s.logPort x).reg r = s.reg r := by cases r <;> rfl
@[simp] theorem State.pair_logPort (s : State) (x : PortAccess) (p : Pair) : (s.logPort x).pair p = s.pair p := by cases p <;> rfl
@[simp] theorem State.reg_acceptInterrupt (s : State) (x : Word) (r : Reg) : (s.acceptInterrupt x).reg r = s.reg r := by cases r <;> rfl
@[simp] theorem State.pair_acceptInterrupt (s : State) (x : Word) (p : Pair) : (s.acceptInterrupt x).pair p = s.pair p := by cases p <;> rfl
@[simp] theorem State.reg_serviceInterrupt (s : State) (n : Nat) (x : Word) (r : Reg) : (s.serviceInterrupt n x).reg r = s.reg r := by cases r <;> rfl
@[simp] theorem State.pair_serviceInterrupt (s : State) (n : Nat) (x : Word) (p : Pair) : (s.serviceInterrupt n x).pair p = s.pair p := by cases p <;> rfl

/-! ### A register or a pair after it is written -/

@[simp] theorem State.reg_setReg_same (s : State) (r : Reg) (v : Byte) : (s.setReg r v).reg r = v := by cases r <;> rfl

theorem State.reg_setReg_other (s : State) (r q : Reg) (v : Byte) (h : q ≠ r) : (s.setReg r v).reg q = s.reg q := by
  cases r <;> cases q <;> first | rfl | exact absurd rfl h

@[simp] theorem hiByte_joinBytes (x y : Byte) : hiByte (joinBytes x y) = x := by
  apply BitVec.eq_of_toNat_eq
  simp only [hiByte, joinBytes, BitVec.toNat_ofNat]
  omega

@[simp] theorem loByte_joinBytes (x y : Byte) : loByte (joinBytes x y) = y := by
  apply BitVec.eq_of_toNat_eq
  simp only [loByte, joinBytes, BitVec.toNat_ofNat]
  omega

@[simp] theorem joinBytes_hi_lo (w : Word) : joinBytes (hiByte w) (loByte w) = w := by
  apply BitVec.eq_of_toNat_eq
  simp only [hiByte, loByte, joinBytes, BitVec.toNat_ofNat]
  omega

@[simp] theorem State.pair_setPair_same (s : State) (p : Pair) (v : Word) : (s.setPair p v).pair p = v := by
  cases p <;> simp [State.setPair, State.pair]

end Sys2Proof.Machine
end

