-- ==== Sys2Proof/Laws/Flags.lean ====
section
/-! SUPPORT. The laws of the flags byte: a flag after a flag is written, and the fixed bits kept. -/

namespace Sys2Proof.Machine

/-- A flag after one flag is written: the written one holds the value, the others theirs (R15). -/
@[simp] theorem getFlag_setFlag (fl fl' : Flag) (v : Bool) (f : Byte) :
    getFlag fl (setFlag fl' v f) = if fl = fl' then v else getFlag fl f := by
  unfold getFlag setFlag
  cases v <;> cases fl <;> cases fl' <;> simp [Flag.bit]

/-- Writing one flag keeps the fixed bits (R15). -/
@[simp] theorem fixed_setFlag (fl : Flag) (v : Bool) (f : Byte) : setFlag fl v f &&& 0x2A#8 = f &&& 0x2A#8 := by
  unfold setFlag
  cases v <;> cases fl <;> simp only [Flag.bit, if_true, if_false, Bool.false_eq_true] <;>
    (apply BitVec.eq_of_getLsbD_eq; intro i hi
     have : i = 0 ∨ i = 1 ∨ i = 2 ∨ i = 3 ∨ i = 4 ∨ i = 5 ∨ i = 6 ∨ i = 7 := by omega
     rcases this with h | h | h | h | h | h | h | h <;> subst h <;> simp)

/-- The mask of a whole write gives the fixed bits their values (R15). -/
@[simp] theorem fixed_wholeFlags (v : Byte) : wholeFlags v &&& 0x2A#8 = 0x02#8 := by
  revert v
  decide

/-- The mask of a whole write keeps the five flags (R15, R155). -/
@[simp] theorem getFlag_wholeFlags (fl : Flag) (v : Byte) : getFlag fl (wholeFlags v) = getFlag fl v := by
  unfold getFlag wholeFlags
  cases fl <;> simp only [Flag.bit] <;> revert v <;> decide

@[simp] theorem fixed_setZSP (r f : Byte) : setZSP r f &&& 0x2A#8 = f &&& 0x2A#8 := by simp [setZSP]

@[simp] theorem fixed_setCarries (a t : Nat) (f : Byte) : setCarries a t f &&& 0x2A#8 = f &&& 0x2A#8 := by
  simp [setCarries]

/-- Zero, sign and parity after `ZSP`; the carries stay (R16). -/
@[simp] theorem getFlag_setZSP (fl : Flag) (r f : Byte) :
    getFlag fl (setZSP r f) =
      match fl with
      | .z => r == 0
      | .s => r.msb
      | .p => evenOnes r
      | .cy => getFlag .cy f
      | .ac => getFlag .ac f := by
  cases fl <;> simp [setZSP]

/-- The carries after an addition; the others stay (R17). -/
@[simp] theorem getFlag_setCarries (fl : Flag) (a t : Nat) (f : Byte) :
    getFlag fl (setCarries a t f) =
      match fl with
      | .cy => probe a t 7
      | .ac => probe a t 3
      | .z => getFlag .z f
      | .s => getFlag .s f
      | .p => getFlag .p f := by
  cases fl <;> simp [setCarries]

/-- The count of ones and the exclusive or of the bits tell the same parity (R16). -/
theorem evenOnes_eq_xor (r : Byte) :
    evenOnes r = !(r.getLsbD 0 ^^ r.getLsbD 1 ^^ r.getLsbD 2 ^^ r.getLsbD 3 ^^ r.getLsbD 4 ^^ r.getLsbD 5
      ^^ r.getLsbD 6 ^^ r.getLsbD 7) := by
  revert r
  decide

end Sys2Proof.Machine
end

