-- ==== Sys2Proof/Laws/Memory.lean ====
section
/-! SUPPORT. The laws of the memory: a read after a write, and the canonical form kept by every operation. -/

namespace Sys2Proof.Machine

/-! ### Read after write, in any memory -/

theorem Memory.read_erase_same (m : Memory) (addr : Nat) : (m.erase addr).read addr = Memory.unlisted := by
  induction m with
  | nil => rfl
  | cons c rest ih =>
    simp only [Memory.erase]
    split
    · exact ih
    · simpa only [Memory.read, if_neg ‹_›] using ih

theorem Memory.read_erase_other (m : Memory) {addr x : Nat} (h : x ≠ addr) : (m.erase addr).read x = m.read x := by
  induction m with
  | nil => rfl
  | cons c rest ih =>
    simp only [Memory.erase, Memory.read]
    split
    · rw [if_neg (by omega)]
      exact ih
    · simp only [Memory.read, ih]

theorem Memory.read_insert_same (m : Memory) {addr : Nat} (v : Byte) (h : (m.erase addr) = m) :
    (m.insert addr v).read addr = v := by
  induction m with
  | nil => simp [Memory.insert, Memory.read]
  | cons c rest ih =>
    simp only [Memory.erase] at h
    split at h
    · have := congrArg List.length h
      have hl : ∀ m : Memory, (m.erase addr).length ≤ m.length := by
        intro m
        induction m with
        | nil => simp [Memory.erase]
        | cons c rest ih =>
          simp only [Memory.erase]
          split <;> simp only [List.length_cons] <;> omega
      have := hl rest
      simp only [List.length_cons] at *
      omega
    · simp only [Memory.insert]
      split
      · simp [Memory.read]
      · simpa only [Memory.read, if_neg ‹¬c.1 = addr›] using ih (List.cons.inj h).2

theorem Memory.read_insert_other (m : Memory) {addr x : Nat} (v : Byte) (h : x ≠ addr) :
    (m.insert addr v).read x = m.read x := by
  induction m with
  | nil => simp [Memory.insert, Memory.read, Ne.symm h]
  | cons c rest ih =>
    simp only [Memory.insert]
    split
    · simp [Memory.read, Ne.symm h]
    · simp only [Memory.read, ih]

theorem Memory.erase_erase (m : Memory) (addr : Nat) : (m.erase addr).erase addr = m.erase addr := by
  induction m with
  | nil => rfl
  | cons c rest ih =>
    simp only [Memory.erase]
    split
    · exact ih
    · simp only [Memory.erase, if_neg ‹_›, ih]

@[simp] theorem Memory.read_write_same (m : Memory) (addr : Nat) (v : Byte) : (m.write addr v).read addr = v := by
  unfold Memory.write
  split
  · rw [Memory.read_erase_same, ‹v = _›]
  · exact Memory.read_insert_same _ v (Memory.erase_erase m addr)

theorem Memory.read_write_other (m : Memory) {addr x : Nat} (v : Byte) (h : x ≠ addr) :
    (m.write addr v).read x = m.read x := by
  unfold Memory.write
  split
  · exact Memory.read_erase_other m h
  · rw [Memory.read_insert_other _ v h, Memory.read_erase_other m h]

/-! ### The canonical form -/

theorem Memory.wfFrom_iff_cons {low k : Nat} {v : Byte} {rest : Memory} :
    Memory.wfFrom low ((k, v) :: rest) = true ↔
      low ≤ k ∧ k < 0x10000 ∧ v ≠ Memory.unlisted ∧ Memory.wfFrom (k + 1) rest = true := by
  simp [Memory.wfFrom, and_assoc]

theorem Memory.wfFrom_mono {low low' : Nat} {m : Memory} (h : Memory.wfFrom low m = true) (hl : low' ≤ low) :
    Memory.wfFrom low' m = true := by
  cases m with
  | nil => rfl
  | cons c rest =>
    obtain ⟨h1, h2⟩ := Memory.wfFrom_iff_cons.mp h
    exact Memory.wfFrom_iff_cons.mpr ⟨by omega, h2⟩

theorem Memory.wfFrom_erase {low : Nat} {m : Memory} (h : Memory.wfFrom low m = true) (addr : Nat) :
    Memory.wfFrom low (m.erase addr) = true := by
  induction m generalizing low with
  | nil => rfl
  | cons c rest ih =>
    obtain ⟨h1, h2, h3, h4⟩ := Memory.wfFrom_iff_cons.mp h
    simp only [Memory.erase]
    split
    · exact ih (Memory.wfFrom_mono h4 (by omega))
    · exact Memory.wfFrom_iff_cons.mpr ⟨h1, h2, h3, ih h4⟩

theorem Memory.wfFrom_insert {low addr : Nat} {m : Memory} {v : Byte} (h : Memory.wfFrom low m = true)
    (he : m.erase addr = m) (hl : low ≤ addr) (ha : addr < 0x10000) (hv : v ≠ Memory.unlisted) :
    Memory.wfFrom low (m.insert addr v) = true := by
  induction m generalizing low with
  | nil => exact Memory.wfFrom_iff_cons.mpr ⟨hl, ha, hv, rfl⟩
  | cons c rest ih =>
    obtain ⟨h1, h2, h3, h4⟩ := Memory.wfFrom_iff_cons.mp h
    have hne : c.1 ≠ addr := by
      intro hc
      have h5 := Memory.read_erase_same (c :: rest) addr
      rw [he] at h5
      exact h3 (by simpa [Memory.read, hc] using h5)
    simp only [Memory.erase, if_neg hne, List.cons.injEq, true_and] at he
    simp only [Memory.insert]
    split
    · exact Memory.wfFrom_iff_cons.mpr ⟨hl, ha, hv, Memory.wfFrom_iff_cons.mpr ⟨by omega, h2, h3, h4⟩⟩
    · exact Memory.wfFrom_iff_cons.mpr ⟨h1, h2, h3, ih h4 he (by omega)⟩

/-- A write keeps the canonical form. -/
theorem Memory.wf_write {m : Memory} (h : m.wf = true) {addr : Nat} (ha : addr < 0x10000) (v : Byte) :
    (m.write addr v).wf = true := by
  unfold Memory.write
  split
  · exact Memory.wfFrom_erase h addr
  · exact Memory.wfFrom_insert (Memory.wfFrom_erase h addr) (Memory.erase_erase m addr) (Nat.zero_le _) ha ‹_›

/-- Copying an image that fits into the memory keeps the canonical form. -/
theorem Memory.wf_copyIn {m : Memory} (h : m.wf = true) {addr : Nat} (image : List Byte)
    (ha : addr + image.length ≤ 0x10000) : (m.copyIn addr image).wf = true := by
  induction image generalizing m addr with
  | nil => exact h
  | cons v rest ih =>
    simp only [List.length_cons] at ha
    exact ih (Memory.wf_write h (by omega) v) (by omega)

theorem Memory.read_copyIn (m : Memory) (addr x : Nat) (image : List Byte) :
    (m.copyIn addr image).read x = if x < addr then m.read x else (image[x - addr]?).getD (m.read x) := by
  induction image generalizing m addr with
  | nil => simp [Memory.copyIn]
  | cons v rest ih =>
    simp only [Memory.copyIn, ih]
    by_cases h1 : x < addr
    · simp [h1, Nat.lt_succ_of_lt h1, Memory.read_write_other m v (Nat.ne_of_lt h1)]
    · by_cases h2 : x = addr
      · subst h2
        simp
      · obtain ⟨k, hk⟩ : ∃ k, x - addr = k + 1 := ⟨x - addr - 1, by omega⟩
        have hk' : x - (addr + 1) = k := by omega
        simp [h1, show ¬x < addr + 1 by omega, hk, hk', Memory.read_write_other m v h2]

/-! ### The same of the state -/

@[simp] theorem State.memRead_memWrite_same (s : State) (x : Word) (v : Byte) : (s.memWrite x v).memRead x = v := by
  simp [State.memRead]

theorem State.memRead_memWrite_other (s : State) {x y : Word} (v : Byte) (h : y ≠ x) :
    (s.memWrite x v).memRead y = s.memRead y := by
  simp only [State.memRead, State.memWrite_mem]
  exact Memory.read_write_other _ _ (fun h' => h (BitVec.eq_of_toNat_eq h'))

theorem State.memRead_memWrite (s : State) (x y : Word) (v : Byte) :
    (s.memWrite x v).memRead y = if y = x then v else s.memRead y := by
  split
  · subst y
    exact State.memRead_memWrite_same s x v
  · exact State.memRead_memWrite_other s v ‹_›

/-- A store keeps the memory's canonical form. -/
theorem State.wf_memWrite {s : State} (h : s.mem.wf = true) (x : Word) (v : Byte) : (s.memWrite x v).mem.wf = true :=
  Memory.wf_write h x.isLt v

theorem State.wf_push16 {s : State} (h : s.mem.wf = true) (v : Word) : (s.push16 v).mem.wf = true :=
  State.wf_memWrite (State.wf_memWrite h _ _) _ _

theorem State.wf_memWrite16 {s : State} (h : s.mem.wf = true) (x v : Word) : (s.memWrite16 x v).mem.wf = true :=
  State.wf_memWrite (State.wf_memWrite h _ _) _ _

/-- Everything a 16-bit store does to the cells (R45). -/
theorem State.memRead_memWrite16 (s : State) (x y v : Word) :
    (s.memWrite16 x v).memRead y =
      if y = x + 1 then hiByte v else if y = x then loByte v else s.memRead y := by
  simp only [State.memWrite16, State.memRead_memWrite]

theorem State.reset_wf : State.reset.mem.wf = true := rfl

end Sys2Proof.Machine
end

