-- ==== Sys2Proof/Laws/Stack.lean ====
section
/-! SUPPORT. The laws of the stack: the arithmetic of the stack pointer, everything a push does, and a pop after a
push. -/

namespace Sys2Proof.Machine

/-- `SpAdd` on numbers, for the four steps the hardware makes (R21). -/
theorem spAdd_val (sp : StackPtr) (k : Int) (hk : k = -2 ∨ k = -1 ∨ k = 1 ∨ k = 2) :
    ((spAdd sp k).val : Int) =
      if (sp.val : Int) + k < 0 then sp.val + k + 0x10000
      else if (sp.val : Int) + k > 0x10000 then sp.val + k - 0x10000 else sp.val + k := by
  have h := sp.isLt
  simp only [spAdd, Fin.ofNat]
  split
  · rw [Int.natCast_emod, Int.toNat_of_nonneg (by omega)]
    omega
  · split
    · rw [Int.natCast_emod, Int.toNat_of_nonneg (by omega)]
      omega
    · rw [Int.natCast_emod, Int.toNat_of_nonneg (by omega)]
      omega

theorem spAddr_toNat (sp : StackPtr) : (spAddr sp).toNat = sp.val % 0x10000 := by simp [spAddr]

/-- The address one step away on the stack is one away mod 65536 (R20, R21). -/
theorem spAddr_spAdd_toNat (sp : StackPtr) (k : Int) (hk : k = -2 ∨ k = -1 ∨ k = 1 ∨ k = 2) :
    ((spAddr (spAdd sp k)).toNat : Int) = ((sp.val : Int) + k) % 0x10000 := by
  rw [spAddr_toNat, Int.natCast_emod, spAdd_val sp k hk]
  have := sp.isLt
  split
  · omega
  · split <;> omega

/-- The two bytes of a push go to different cells. -/
theorem spAddr_pushed_ne (sp : StackPtr) : spAddr (spAdd sp (-1)) ≠ spAddr (spAdd sp (-2)) := by
  intro h
  have h1 := spAddr_spAdd_toNat sp (-1) (by simp)
  have h2 := spAddr_spAdd_toNat sp (-2) (by simp)
  rw [h] at h1
  omega

/-- The two bytes at the top of the stack lie in different cells. -/
theorem spAddr_top_ne (sp : StackPtr) : spAddr (spAdd sp 1) ≠ spAddr sp := by
  intro h
  have h1 := spAddr_spAdd_toNat sp 1 (by simp)
  have h2 := spAddr_toNat sp
  rw [h] at h1
  omega

/-- After a step down by 2 the next byte up is the one at SP-1 (R150, R151). -/
theorem spAddr_up_of_down (sp : StackPtr) : spAddr (spAdd (spAdd sp (-2)) 1) = spAddr (spAdd sp (-1)) := by
  apply BitVec.eq_of_toNat_eq
  have h1 := spAddr_spAdd_toNat (spAdd sp (-2)) 1 (by simp)
  have h2 := spAddr_spAdd_toNat sp (-1) (by simp)
  have h3 := spAdd_val sp (-2) (by simp)
  have := sp.isLt
  split at h3
  · omega
  · split at h3 <;> omega

/-- Down by 2 and up by 2: the same value, but 0 comes back as 0x10000 (R151). -/
theorem spAdd_down_up (sp : StackPtr) : spAdd (spAdd sp (-2)) 2 = if sp = 0 then 0x10000 else sp := by
  apply Fin.ext
  have h1 := spAdd_val (spAdd sp (-2)) 2 (by simp)
  have h2 := spAdd_val sp (-2) (by simp)
  have := sp.isLt
  by_cases h : sp = 0
  · subst h
    simp at h2
    rw [h2] at h1
    simp at h1
    simp
    omega
  · have hv : sp.val ≠ 0 := fun hv => h (Fin.ext hv)
    rw [if_neg h]
    split at h2
    · split at h1
      · omega
      · split at h1 <;> omega
    · split at h2
      · omega
      · split at h1
        · omega
        · split at h1 <;> omega

/-- Everything a push does to the cells (R150). -/
theorem State.memRead_push16 (s : State) (v y : Word) :
    (s.push16 v).memRead y =
      if y = spAddr (spAdd s.sp (-2)) then loByte v
      else if y = spAddr (spAdd s.sp (-1)) then hiByte v else s.memRead y := by
  have h : (s.push16 v).memRead y =
      ((s.memWrite (spAddr (spAdd s.sp (-1))) (hiByte v)).memWrite (spAddr (spAdd s.sp (-2))) (loByte v)).memRead y :=
    State.memRead_of_mem_eq rfl y
  rw [h, State.memRead_memWrite, State.memRead_memWrite]

/-- What a pop finds after a push (R151). -/
theorem State.stackTop_push16 (s : State) (v : Word) : (s.push16 v).stackTop = v := by
  simp only [State.stackTop, State.push16_sp, spAddr_up_of_down, State.memRead_push16, if_true,
    if_neg (spAddr_pushed_ne s.sp), joinBytes_hi_lo]

/-- The top of the stack of two states that agree on the stack pointer and on every cell. -/
theorem State.stackTop_congr {s t : State} (hs : t.sp = s.sp) (hm : t.mem = s.mem) : t.stackTop = s.stackTop := by
  simp only [State.stackTop, hs, State.memRead_of_mem_eq hm]

end Sys2Proof.Machine
end

