-- ==== Sys2Proof/Laws/Exec.lean ====
section
/-! SUPPORT. The meanings by family, and what executing any instruction can do, said once. -/

namespace Sys2Proof.Machine

/-! ### The meanings by family -/

theorem exec_add (x : Operand) (s : State) : exec (.alu .add x) s = .next ((s.addToA (s.operand x)).advance 1) := by
  rcases x with ⟨_ | _⟩ | _ <;> rfl

theorem exec_adc (x : Operand) (s : State) : exec (.alu .adc x) s = .next ((s.adcToA (s.operand x)).advance 1) := by
  rcases x with ⟨_ | _⟩ | _ <;> rfl

theorem exec_sub (x : Operand) (s : State) : exec (.alu .sub x) s = .next ((s.subFromA (s.operand x)).advance 1) := by
  rcases x with ⟨_ | _⟩ | _ <;> rfl

theorem exec_sbb (x : Operand) (s : State) : exec (.alu .sbb x) s = .next ((s.sbbFromA (s.operand x)).advance 1) := by
  rcases x with ⟨_ | _⟩ | _ <;> rfl

theorem exec_cmp (x : Operand) (s : State) : exec (.alu .cmp x) s = .next ((s.cmpWithA (s.operand x)).advance 1) := by
  rcases x with ⟨_ | _⟩ | _ <;> rfl

theorem exec_ana (x : Operand) (s : State) : exec (.alu .ana x) s = .next ((s.anaWithA (s.operand x)).advance 1) := by
  rcases x with ⟨_ | _⟩ | _ <;> rfl

theorem exec_xra (x : Operand) (s : State) : exec (.alu .xra x) s = .next ((s.xraWithA (s.operand x)).advance 1) := by
  rcases x with ⟨_ | _⟩ | _ <;> rfl

theorem exec_ora (x : Operand) (s : State) : exec (.alu .ora x) s = .next ((s.oraWithA (s.operand x)).advance 1) := by
  rcases x with ⟨_ | _⟩ | _ <;> rfl

theorem exec_inr (x : Operand) (s : State) : exec (.inr x) s = .next ((s.incOperand x).advance 1) := by
  rcases x with ⟨_ | _⟩ | _ <;> rfl

theorem exec_dcr (x : Operand) (s : State) : exec (.dcr x) s = .next ((s.decOperand x).advance 1) := by
  rcases x with ⟨_ | _⟩ | _ <;> rfl

theorem exec_inx (p : PairSp) (s : State) : exec (.inx p) s = .next ((s.incPair p).advance 1) := by
  rcases p with ⟨_ | _⟩ | _ <;> rfl

theorem exec_dcx (p : PairSp) (s : State) : exec (.dcx p) s = .next ((s.decPair p).advance 1) := by
  rcases p with ⟨_ | _⟩ | _ <;> rfl

theorem exec_dad (p : PairSp) (s : State) : exec (.dad p) s = .next ((s.dad p).advance 1) := by
  rcases p with ⟨_ | _⟩ | _ <;> rfl

theorem exec_movRegReg (r q : Reg) (s : State) :
    exec (.movRegReg r q) s = .next ((s.setReg r (s.reg q)).advance 1) := by cases r <;> cases q <;> rfl

theorem exec_movRegM (r : Reg) (s : State) : exec (.movRegM r) s = .next ((s.setReg r (s.memRead s.hl)).advance 1) := by
  cases r <;> rfl

theorem exec_movMReg (r : Reg) (s : State) : exec (.movMReg r) s = .next ((s.memWrite s.hl (s.reg r)).advance 1) := by
  cases r <;> rfl

theorem exec_mvi (x : Operand) (d8 : Byte) (s : State) : exec (.mvi x d8) s = .next ((s.setOperand x d8).advance 2) := by
  rcases x with ⟨_ | _⟩ | _ <;> rfl

theorem exec_lxi (p : PairSp) (d16 : Word) (s : State) :
    exec (.lxi p d16) s = .next ((s.setPairSp p d16).advance 3) := by rcases p with ⟨_ | _⟩ | _ <;> rfl

theorem exec_ldax (p : AccPair) (s : State) : exec (.ldax p) s = .next ((s.loadA (s.accPair p)).advance 1) := by
  cases p <;> rfl

theorem exec_stax (p : AccPair) (s : State) : exec (.stax p) s = .next ((s.storeA (s.accPair p)).advance 1) := by
  cases p <;> rfl

theorem exec_push (p : PairPsw) (s : State) : exec (.push p) s = .next ((s.push16 (s.pairPsw p)).advance 1) := by
  rcases p with ⟨_ | _⟩ | _ <;> rfl

theorem exec_pop (p : PairPsw) (s : State) :
    exec (.pop p) s = .next ((s.dropTop.setPairPsw p s.stackTop).advance 1) := by rcases p with ⟨_ | _⟩ | _ <;> rfl

theorem exec_jumpIf (cc : Cond) (a16 : Word) (s : State) :
    exec (.jumpIf cc a16) s = .next (s.branchIf cc 3 { s with pc := a16 }) := by cases cc <;> rfl

theorem exec_callIf (cc : Cond) (a16 : Word) (s : State) :
    exec (.callIf cc a16) s = .next (s.branchIf cc 3 (s.call (s.after 3) a16)) := by cases cc <;> rfl

theorem exec_retIf (cc : Cond) (s : State) : exec (.retIf cc) s = .next (s.branchIf cc 1 s.ret) := by cases cc <;> rfl

theorem exec_rst (n : Fin 8) (s : State) :
    exec (.rst n) s = .next (s.call (s.after 1) (BitVec.ofNat 16 (8 * n.val))) := by
  match n with
  | 0 | 1 | 2 | 3 | 4 | 5 | 6 | 7 => rfl

/-! ### The fixed bits of the flags byte after every computation -/

@[simp] theorem fixed_add8 (a b : Byte) (c : Bool) (f : Byte) : (add8 a b c f).flags &&& 0x2A#8 = f &&& 0x2A#8 := by
  simp [add8]

@[simp] theorem fixed_sub8 (a b : Byte) (c : Bool) (f : Byte) : (sub8 a b c f).flags &&& 0x2A#8 = f &&& 0x2A#8 := by
  simp [sub8]

@[simp] theorem fixed_logicFlags (r f : Byte) : logicFlags r f &&& 0x2A#8 = f &&& 0x2A#8 := by simp [logicFlags]

@[simp] theorem fixed_inc8 (x f : Byte) : (inc8 x f).flags &&& 0x2A#8 = f &&& 0x2A#8 := by simp [inc8]

@[simp] theorem fixed_dec8 (x f : Byte) : (dec8 x f).flags &&& 0x2A#8 = f &&& 0x2A#8 := by simp [dec8]

@[simp] theorem fixed_dadFlags (a : Word) (b : Nat) (f : Byte) : dadFlags a b f &&& 0x2A#8 = f &&& 0x2A#8 := by
  simp [dadFlags]

@[simp] theorem fixed_daa8 (a f : Byte) : (daa8 a f).flags &&& 0x2A#8 = f &&& 0x2A#8 := by
  simp only [daa8]
  split <;> split <;> simp

/-! ### What executing an instruction can do -/

/-- An effect on the registers, the flags, `PC`, `SP` and the memory only, that keeps the memory's canonical form, and
keeps the fixed bits of the flags byte unless it gives them their values. -/
structure Plain (s t : State) : Prop where
  wf : s.mem.wf = true → t.mem.wf = true
  fixed : t.f &&& 0x2A#8 = s.f &&& 0x2A#8 ∨ t.f &&& 0x2A#8 = 0x02#8
  cyc : t.cyc = s.cyc
  latch : t.latch = s.latch
  halted : t.halted = s.halted
  ie : t.ie = s.ie
  stopped : t.stopped = s.stopped
  fault : t.fault = s.fault
  portHandler : t.portHandler = s.portHandler
  imageLen : t.imageLen = s.imageLen
  portLog : t.portLog = s.portLog

theorem Plain.refl (s : State) : Plain s s := ⟨id, .inl rfl, rfl, rfl, rfl, rfl, rfl, rfl, rfl, rfl, rfl⟩

/-- An effect that leaves the memory and every control field, and keeps the fixed flags. -/
theorem Plain.ofRegs {s t : State} (hm : t.mem = s.mem) (hf : t.f &&& 0x2A#8 = s.f &&& 0x2A#8)
    (h : (t.cyc, t.latch, t.halted, t.ie, t.stopped, t.fault, t.portHandler, t.imageLen, t.portLog)
      = (s.cyc, s.latch, s.halted, s.ie, s.stopped, s.fault, s.portHandler, s.imageLen, s.portLog)) : Plain s t := by
  simp only [Prod.mk.injEq] at h
  obtain ⟨h1, h2, h3, h4, h5, h6, h7, h8, h9⟩ := h
  exact ⟨fun hw => hm ▸ hw, .inl hf, h1, h2, h3, h4, h5, h6, h7, h8, h9⟩

/-- Going to an address adds nothing to an effect. -/
theorem Plain.withPc {s t : State} (h : Plain s t) (x : Word) : Plain s { t with pc := x } :=
  ⟨h.wf, h.fixed, h.cyc, h.latch, h.halted, h.ie, h.stopped, h.fault, h.portHandler, h.imageLen, h.portLog⟩

/-- Moving past the instruction adds nothing to an effect. -/
theorem Plain.advance {s t : State} (h : Plain s t) (n : Nat) : Plain s (t.advance n) := h.withPc _

theorem Plain.setReg (s : State) (r : Reg) (v : Byte) : Plain s (s.setReg r v) := .ofRegs (by simp) (by simp) (by simp)

theorem Plain.setPair (s : State) (p : Pair) (v : Word) : Plain s (s.setPair p v) :=
  .ofRegs (by simp) (by simp) (by simp)

theorem Plain.memWrite (s : State) (x : Word) (v : Byte) : Plain s (s.memWrite x v) :=
  ⟨fun h => State.wf_memWrite h x v, .inl rfl, rfl, rfl, rfl, rfl, rfl, rfl, rfl, rfl, rfl⟩

theorem Plain.memWrite16 (s : State) (x v : Word) : Plain s (s.memWrite16 x v) :=
  ⟨fun h => State.wf_memWrite16 h x v, .inl rfl, rfl, rfl, rfl, rfl, rfl, rfl, rfl, rfl, rfl⟩

theorem Plain.push16 (s : State) (v : Word) : Plain s (s.push16 v) :=
  ⟨fun h => State.wf_push16 h v, .inl rfl, rfl, rfl, rfl, rfl, rfl, rfl, rfl, rfl, rfl⟩

theorem Plain.call (s : State) (w x : Word) : Plain s (s.call w x) := (Plain.push16 s w).withPc x

theorem Plain.ret (s : State) : Plain s s.ret := .ofRegs rfl rfl rfl

theorem Plain.xchg (s : State) (v w : Word) : Plain s ((s.setPair .de v).setPair .hl w) := .ofRegs rfl rfl rfl

theorem Plain.setOperand (s : State) (x : Operand) (v : Byte) : Plain s (s.setOperand x v) := by
  cases x with
  | reg r => exact .setReg s r v
  | m => exact .memWrite s _ v

/-- Writing the flags byte after an effect, the fixed bits kept. -/
theorem Plain.withFlags {s t : State} (h : Plain s t) {f : Byte} (hf : f &&& 0x2A#8 = s.f &&& 0x2A#8) :
    Plain s { t with f := f } :=
  ⟨h.wf, .inl hf, h.cyc, h.latch, h.halted, h.ie, h.stopped, h.fault, h.portHandler, h.imageLen, h.portLog⟩

theorem Plain.setAlu (s : State) {r : AluResult} (h : r.flags &&& 0x2A#8 = s.f &&& 0x2A#8) : Plain s (s.setAlu r) :=
  .ofRegs rfl h rfl

theorem Plain.incOperand (s : State) (x : Operand) : Plain s (s.incOperand x) :=
  (Plain.setOperand s x _).withFlags (fixed_inc8 _ _)

theorem Plain.decOperand (s : State) (x : Operand) : Plain s (s.decOperand x) :=
  (Plain.setOperand s x _).withFlags (fixed_dec8 _ _)

theorem Plain.incPair (s : State) (p : PairSp) : Plain s (s.incPair p) := by
  cases p with
  | pair p => exact .setPair s p _
  | sp => exact .ofRegs rfl rfl rfl

theorem Plain.decPair (s : State) (p : PairSp) : Plain s (s.decPair p) := by
  cases p with
  | pair p => exact .setPair s p _
  | sp => exact .ofRegs rfl rfl rfl

theorem Plain.dad (s : State) (p : PairSp) : Plain s (s.dad p) :=
  (Plain.setPair s .hl _).withFlags (fixed_dadFlags _ _ _)

theorem Plain.setPairSp (s : State) (p : PairSp) (v : Word) : Plain s (s.setPairSp p v) := by
  cases p with
  | pair p => exact .setPair s p _
  | sp => exact .ofRegs rfl rfl rfl

theorem Plain.popInto (s : State) (p : PairPsw) (v : Word) : Plain s (s.dropTop.setPairPsw p v) := by
  cases p with
  | pair p => exact .ofRegs (by simp [State.setPairPsw]) (by simp [State.setPairPsw]) (by simp [State.setPairPsw])
  | psw => exact ⟨id, .inr (fixed_wholeFlags _), rfl, rfl, rfl, rfl, rfl, rfl, rfl, rfl, rfl⟩

theorem Plain.exchangeTop (s : State) : Plain s s.exchangeTop :=
  ⟨fun h => State.wf_memWrite (State.wf_memWrite h _ _) _ _, .inl rfl, rfl, rfl, rfl, rfl, rfl, rfl, rfl, rfl, rfl⟩

theorem Plain.branchIf {s t : State} (cc : Cond) (n : Nat) (h : Plain s t) : Plain s (s.branchIf cc n t) := by
  unfold State.branchIf
  split
  · exact h
  · exact (Plain.refl s).advance n

/-- What executing an instruction can do, said once for all of them. -/
inductive Effect (s : State) : Instr → State → Prop
  | plain {i : Instr} {t : State} (h : Plain s t) : Effect s i t
  | readPort (d8 : Byte) (h : HandlerId) (hp : s.portHandler = some h) :
      Effect s (.inp d8)
        (State.advance { s.logPort (.read d8 (s.portAnswer h d8)) with a := s.portAnswer h d8 } 2)
  | writePort (d8 : Byte) (h : HandlerId) (hp : s.portHandler = some h) :
      Effect s (.out d8) ((s.logPort (.write d8 s.a)).advance 2)
  | noHandlerIn (d8 : Byte) (hp : s.portHandler = none) : Effect s (.inp d8) (s.raise .missingPortHandler)
  | noHandlerOut (d8 : Byte) (hp : s.portHandler = none) : Effect s (.out d8) (s.raise .missingPortHandler)
  | halt : Effect s .hlt (State.advance { s with halted := true } 1)
  | quit : Effect s .quit (State.advance { s with stopped := true } 1)
  | enable : Effect s .ei (State.advance { s with ie := true } 1)
  | disable : Effect s .di (State.advance { s with ie := false } 1)
  | unrecognized (op : Byte) : Effect s (.unrecognized op) (s.raise (.unrecognizedOpcode op))

/-- Every instruction has a next state, and its effect is one of those of `Effect`. -/
theorem exec_effect (i : Instr) (s : State) : ∃ t, exec i s = .next t ∧ Effect s i t := by
  cases i
  case inp d8 =>
    cases h : s.portHandler with
    | none => exact ⟨_, by simp only [exec, execInp, h], .noHandlerIn d8 h⟩
    | some k => exact ⟨_, by simp only [exec, execInp, h], .readPort d8 k h⟩
  case out d8 =>
    cases h : s.portHandler with
    | none => exact ⟨_, by simp only [exec, execOut, h], .noHandlerOut d8 h⟩
    | some k => exact ⟨_, by simp only [exec, execOut, h], .writePort d8 k h⟩
  case hlt => exact ⟨_, rfl, .halt⟩
  case quit => exact ⟨_, rfl, .quit⟩
  case ei => exact ⟨_, rfl, .enable⟩
  case di => exact ⟨_, rfl, .disable⟩
  case unrecognized op => exact ⟨_, rfl, .unrecognized op⟩
  case nop =>
    exact ⟨_, rfl, .plain ((Plain.refl s).advance _)⟩
  case lxi_B | lxi_D | lxi_H | lxi_SP =>
    exact ⟨_, rfl, .plain ((Plain.setPairSp s _ _).advance _)⟩
  case stax_B | stax_D | sta =>
    exact ⟨_, rfl, .plain ((Plain.memWrite s _ _).advance _)⟩
  case inx_B | inx_D | inx_H | inx_SP =>
    exact ⟨_, rfl, .plain ((Plain.incPair s _).advance _)⟩
  case inr_B | inr_C | inr_D | inr_E | inr_H | inr_L | inr_M | inr_A =>
    exact ⟨_, rfl, .plain ((Plain.incOperand s _).advance _)⟩
  case dcr_B | dcr_C | dcr_D | dcr_E | dcr_H | dcr_L | dcr_M | dcr_A =>
    exact ⟨_, rfl, .plain ((Plain.decOperand s _).advance _)⟩
  case mvi_B | mvi_C | mvi_D | mvi_E | mvi_H | mvi_L | mvi_M | mvi_A | mov_B_B | mov_B_C | mov_B_D | mov_B_E |
      mov_B_H | mov_B_L | mov_B_M | mov_B_A | mov_C_B | mov_C_C | mov_C_D | mov_C_E | mov_C_H | mov_C_L | mov_C_M |
      mov_C_A | mov_D_B | mov_D_C | mov_D_D | mov_D_E | mov_D_H | mov_D_L | mov_D_M | mov_D_A | mov_E_B | mov_E_C |
      mov_E_D | mov_E_E | mov_E_H | mov_E_L | mov_E_M | mov_E_A | mov_H_B | mov_H_C | mov_H_D | mov_H_E | mov_H_H |
      mov_H_L | mov_H_M | mov_H_A | mov_L_B | mov_L_C | mov_L_D | mov_L_E | mov_L_H | mov_L_L | mov_L_M | mov_L_A |
      mov_M_B | mov_M_C | mov_M_D | mov_M_E | mov_M_H | mov_M_L | mov_M_A | mov_A_B | mov_A_C | mov_A_D | mov_A_E |
      mov_A_H | mov_A_L | mov_A_M | mov_A_A =>
    exact ⟨_, rfl, .plain ((Plain.setOperand s _ _).advance _)⟩
  case rlc | rrc | ral | rar =>
    exact ⟨_, rfl, .plain ((Plain.setAlu s (fixed_setFlag _ _ _)).advance _)⟩
  case dad_B | dad_D | dad_H | dad_SP =>
    exact ⟨_, rfl, .plain ((Plain.dad s _).advance _)⟩
  case dcx_B | dcx_D | dcx_H | dcx_SP =>
    exact ⟨_, rfl, .plain ((Plain.decPair s _).advance _)⟩
  case shld =>
    exact ⟨_, rfl, .plain ((Plain.memWrite16 s _ _).advance _)⟩
  case daa =>
    exact ⟨_, rfl, .plain ((Plain.setAlu s (fixed_daa8 _ _)).advance _)⟩
  case lhld =>
    exact ⟨_, rfl, .plain ((Plain.setPair s _ _).advance _)⟩
  case cma | sphl =>
    exact ⟨_, rfl, .plain (Plain.ofRegs rfl rfl rfl)⟩
  case stc | cmc =>
    exact ⟨_, rfl, .plain (((Plain.refl s).withFlags (fixed_setFlag _ _ _)).advance _)⟩
  case add_B | add_C | add_D | add_E | add_H | add_L | add_M | add_A | adc_B | adc_C | adc_D | adc_E | adc_H |
      adc_L | adc_M | adc_A | adi | aci =>
    exact ⟨_, rfl, .plain ((Plain.setAlu s (fixed_add8 _ _ _ _)).advance _)⟩
  case sub_B | sub_C | sub_D | sub_E | sub_H | sub_L | sub_M | sub_A | sbb_B | sbb_C | sbb_D | sbb_E | sbb_H |
      sbb_L | sbb_M | sbb_A | sui | sbi =>
    exact ⟨_, rfl, .plain ((Plain.setAlu s (fixed_sub8 _ _ _ _)).advance _)⟩
  case ana_B | ana_C | ana_D | ana_E | ana_H | ana_L | ana_M | ana_A | xra_B | xra_C | xra_D | xra_E | xra_H |
      xra_L | xra_M | xra_A | ora_B | ora_C | ora_D | ora_E | ora_H | ora_L | ora_M | ora_A | ani | xri | ori =>
    exact ⟨_, rfl, .plain ((Plain.setAlu s (fixed_logicFlags _ _)).advance _)⟩
  case cmp_B | cmp_C | cmp_D | cmp_E | cmp_H | cmp_L | cmp_M | cmp_A | cpi =>
    exact ⟨_, rfl, .plain (((Plain.refl s).withFlags (fixed_sub8 _ _ _ _)).advance _)⟩
  case rnz | rz | rnc | rc | rpo | rpe | rp | rm =>
    exact ⟨_, rfl, .plain (Plain.branchIf _ _ (Plain.ret s))⟩
  case pop_B | pop_D | pop_H | pop_PSW =>
    exact ⟨_, rfl, .plain ((Plain.popInto s _ _).advance _)⟩
  case jnz | jz | jnc | jc | jpo | jpe | jp | jm =>
    exact ⟨_, rfl, .plain (Plain.branchIf _ _ ((Plain.refl s).withPc _))⟩
  case jmp | pchl =>
    exact ⟨_, rfl, .plain ((Plain.refl s).withPc _)⟩
  case cnz | cz | cnc | cc | cpo | cpe | cp | cm =>
    exact ⟨_, rfl, .plain (Plain.branchIf _ _ (Plain.call s _ _))⟩
  case push_B | push_D | push_H | push_PSW =>
    exact ⟨_, rfl, .plain ((Plain.push16 s _).advance _)⟩
  case rst_0 | call | rst_1 | rst_2 | rst_3 | rst_4 | rst_5 | rst_6 | rst_7 =>
    exact ⟨_, rfl, .plain (Plain.call s _ _)⟩
  case ret =>
    exact ⟨_, rfl, .plain (Plain.ret s)⟩
  case xthl =>
    exact ⟨_, rfl, .plain ((Plain.exchangeTop s).advance _)⟩
  case xchg =>
    exact ⟨_, rfl, .plain ((Plain.xchg s _ _).advance _)⟩
  case lda | ldax_B | ldax_D => exact ⟨_, rfl, .plain ((Plain.setReg s .a _).advance _)⟩

end Sys2Proof.Machine
end

