-- ==== Sys2Proof/Laws/PerInstr.lean ====
section
/-! SUPPORT. A fact about every instruction as syntax, one lemma for each constructor: an instruction is one to three
bytes long, whichever byte is `QUIT` (R60, R64). -/

namespace Sys2Proof.Laws.EncodedLength

/-- The encoding is one, two or three bytes long. -/
def Statement (i : Instr) : Prop := ∀ quit : Byte, 1 ≤ (encode quit i).length ∧ (encode quit i).length ≤ 3

/-- From the number of operand bytes to the length. -/
theorem of_operandBytes {i : Instr} (h : (operandBytes i).length ≤ 2) : Statement i := fun quit => by
  have : (encode quit i).length = (operandBytes i).length + 1 := rfl
  omega

theorem unrecognized (op : Byte) : Statement (.unrecognized op) := of_operandBytes (Nat.le_of_ble_eq_true rfl)
theorem lxi_B (d16 : Word) : Statement (.lxi_B d16) := of_operandBytes (Nat.le_of_ble_eq_true rfl)
theorem mvi_B (d8 : Byte) : Statement (.mvi_B d8) := of_operandBytes (Nat.le_of_ble_eq_true rfl)
theorem mvi_C (d8 : Byte) : Statement (.mvi_C d8) := of_operandBytes (Nat.le_of_ble_eq_true rfl)
theorem lxi_D (d16 : Word) : Statement (.lxi_D d16) := of_operandBytes (Nat.le_of_ble_eq_true rfl)
theorem mvi_D (d8 : Byte) : Statement (.mvi_D d8) := of_operandBytes (Nat.le_of_ble_eq_true rfl)
theorem mvi_E (d8 : Byte) : Statement (.mvi_E d8) := of_operandBytes (Nat.le_of_ble_eq_true rfl)
theorem lxi_H (d16 : Word) : Statement (.lxi_H d16) := of_operandBytes (Nat.le_of_ble_eq_true rfl)
theorem shld (a16 : Word) : Statement (.shld a16) := of_operandBytes (Nat.le_of_ble_eq_true rfl)
theorem mvi_H (d8 : Byte) : Statement (.mvi_H d8) := of_operandBytes (Nat.le_of_ble_eq_true rfl)
theorem lhld (a16 : Word) : Statement (.lhld a16) := of_operandBytes (Nat.le_of_ble_eq_true rfl)
theorem mvi_L (d8 : Byte) : Statement (.mvi_L d8) := of_operandBytes (Nat.le_of_ble_eq_true rfl)
theorem lxi_SP (d16 : Word) : Statement (.lxi_SP d16) := of_operandBytes (Nat.le_of_ble_eq_true rfl)
theorem sta (a16 : Word) : Statement (.sta a16) := of_operandBytes (Nat.le_of_ble_eq_true rfl)
theorem mvi_M (d8 : Byte) : Statement (.mvi_M d8) := of_operandBytes (Nat.le_of_ble_eq_true rfl)
theorem lda (a16 : Word) : Statement (.lda a16) := of_operandBytes (Nat.le_of_ble_eq_true rfl)
theorem mvi_A (d8 : Byte) : Statement (.mvi_A d8) := of_operandBytes (Nat.le_of_ble_eq_true rfl)
theorem jnz (a16 : Word) : Statement (.jnz a16) := of_operandBytes (Nat.le_of_ble_eq_true rfl)
theorem jmp (a16 : Word) : Statement (.jmp a16) := of_operandBytes (Nat.le_of_ble_eq_true rfl)
theorem cnz (a16 : Word) : Statement (.cnz a16) := of_operandBytes (Nat.le_of_ble_eq_true rfl)
theorem adi (d8 : Byte) : Statement (.adi d8) := of_operandBytes (Nat.le_of_ble_eq_true rfl)
theorem jz (a16 : Word) : Statement (.jz a16) := of_operandBytes (Nat.le_of_ble_eq_true rfl)
theorem cz (a16 : Word) : Statement (.cz a16) := of_operandBytes (Nat.le_of_ble_eq_true rfl)
theorem call (a16 : Word) : Statement (.call a16) := of_operandBytes (Nat.le_of_ble_eq_true rfl)
theorem aci (d8 : Byte) : Statement (.aci d8) := of_operandBytes (Nat.le_of_ble_eq_true rfl)
theorem jnc (a16 : Word) : Statement (.jnc a16) := of_operandBytes (Nat.le_of_ble_eq_true rfl)
theorem out (d8 : Byte) : Statement (.out d8) := of_operandBytes (Nat.le_of_ble_eq_true rfl)
theorem cnc (a16 : Word) : Statement (.cnc a16) := of_operandBytes (Nat.le_of_ble_eq_true rfl)
theorem sui (d8 : Byte) : Statement (.sui d8) := of_operandBytes (Nat.le_of_ble_eq_true rfl)
theorem jc (a16 : Word) : Statement (.jc a16) := of_operandBytes (Nat.le_of_ble_eq_true rfl)
theorem inp (d8 : Byte) : Statement (.inp d8) := of_operandBytes (Nat.le_of_ble_eq_true rfl)
theorem cc (a16 : Word) : Statement (.cc a16) := of_operandBytes (Nat.le_of_ble_eq_true rfl)
theorem sbi (d8 : Byte) : Statement (.sbi d8) := of_operandBytes (Nat.le_of_ble_eq_true rfl)
theorem jpo (a16 : Word) : Statement (.jpo a16) := of_operandBytes (Nat.le_of_ble_eq_true rfl)
theorem cpo (a16 : Word) : Statement (.cpo a16) := of_operandBytes (Nat.le_of_ble_eq_true rfl)
theorem ani (d8 : Byte) : Statement (.ani d8) := of_operandBytes (Nat.le_of_ble_eq_true rfl)
theorem jpe (a16 : Word) : Statement (.jpe a16) := of_operandBytes (Nat.le_of_ble_eq_true rfl)
theorem cpe (a16 : Word) : Statement (.cpe a16) := of_operandBytes (Nat.le_of_ble_eq_true rfl)
theorem xri (d8 : Byte) : Statement (.xri d8) := of_operandBytes (Nat.le_of_ble_eq_true rfl)
theorem jp (a16 : Word) : Statement (.jp a16) := of_operandBytes (Nat.le_of_ble_eq_true rfl)
theorem cp (a16 : Word) : Statement (.cp a16) := of_operandBytes (Nat.le_of_ble_eq_true rfl)
theorem ori (d8 : Byte) : Statement (.ori d8) := of_operandBytes (Nat.le_of_ble_eq_true rfl)
theorem jm (a16 : Word) : Statement (.jm a16) := of_operandBytes (Nat.le_of_ble_eq_true rfl)
theorem cm (a16 : Word) : Statement (.cm a16) := of_operandBytes (Nat.le_of_ble_eq_true rfl)
theorem cpi (d8 : Byte) : Statement (.cpi d8) := of_operandBytes (Nat.le_of_ble_eq_true rfl)
theorem nop : Statement .nop := of_operandBytes (Nat.le_of_ble_eq_true rfl)
theorem stax_B : Statement .stax_B := of_operandBytes (Nat.le_of_ble_eq_true rfl)
theorem inx_B : Statement .inx_B := of_operandBytes (Nat.le_of_ble_eq_true rfl)
theorem inr_B : Statement .inr_B := of_operandBytes (Nat.le_of_ble_eq_true rfl)
theorem dcr_B : Statement .dcr_B := of_operandBytes (Nat.le_of_ble_eq_true rfl)
theorem rlc : Statement .rlc := of_operandBytes (Nat.le_of_ble_eq_true rfl)
theorem quit : Statement .quit := of_operandBytes (Nat.le_of_ble_eq_true rfl)
theorem dad_B : Statement .dad_B := of_operandBytes (Nat.le_of_ble_eq_true rfl)
theorem ldax_B : Statement .ldax_B := of_operandBytes (Nat.le_of_ble_eq_true rfl)
theorem dcx_B : Statement .dcx_B := of_operandBytes (Nat.le_of_ble_eq_true rfl)
theorem inr_C : Statement .inr_C := of_operandBytes (Nat.le_of_ble_eq_true rfl)
theorem dcr_C : Statement .dcr_C := of_operandBytes (Nat.le_of_ble_eq_true rfl)
theorem rrc : Statement .rrc := of_operandBytes (Nat.le_of_ble_eq_true rfl)
theorem stax_D : Statement .stax_D := of_operandBytes (Nat.le_of_ble_eq_true rfl)
theorem inx_D : Statement .inx_D := of_operandBytes (Nat.le_of_ble_eq_true rfl)
theorem inr_D : Statement .inr_D := of_operandBytes (Nat.le_of_ble_eq_true rfl)
theorem dcr_D : Statement .dcr_D := of_operandBytes (Nat.le_of_ble_eq_true rfl)
theorem ral : Statement .ral := of_operandBytes (Nat.le_of_ble_eq_true rfl)
theorem dad_D : Statement .dad_D := of_operandBytes (Nat.le_of_ble_eq_true rfl)
theorem ldax_D : Statement .ldax_D := of_operandBytes (Nat.le_of_ble_eq_true rfl)
theorem dcx_D : Statement .dcx_D := of_operandBytes (Nat.le_of_ble_eq_true rfl)
theorem inr_E : Statement .inr_E := of_operandBytes (Nat.le_of_ble_eq_true rfl)
theorem dcr_E : Statement .dcr_E := of_operandBytes (Nat.le_of_ble_eq_true rfl)
theorem rar : Statement .rar := of_operandBytes (Nat.le_of_ble_eq_true rfl)
theorem inx_H : Statement .inx_H := of_operandBytes (Nat.le_of_ble_eq_true rfl)
theorem inr_H : Statement .inr_H := of_operandBytes (Nat.le_of_ble_eq_true rfl)
theorem dcr_H : Statement .dcr_H := of_operandBytes (Nat.le_of_ble_eq_true rfl)
theorem daa : Statement .daa := of_operandBytes (Nat.le_of_ble_eq_true rfl)
theorem dad_H : Statement .dad_H := of_operandBytes (Nat.le_of_ble_eq_true rfl)
theorem dcx_H : Statement .dcx_H := of_operandBytes (Nat.le_of_ble_eq_true rfl)
theorem inr_L : Statement .inr_L := of_operandBytes (Nat.le_of_ble_eq_true rfl)
theorem dcr_L : Statement .dcr_L := of_operandBytes (Nat.le_of_ble_eq_true rfl)
theorem cma : Statement .cma := of_operandBytes (Nat.le_of_ble_eq_true rfl)
theorem inx_SP : Statement .inx_SP := of_operandBytes (Nat.le_of_ble_eq_true rfl)
theorem inr_M : Statement .inr_M := of_operandBytes (Nat.le_of_ble_eq_true rfl)
theorem dcr_M : Statement .dcr_M := of_operandBytes (Nat.le_of_ble_eq_true rfl)
theorem stc : Statement .stc := of_operandBytes (Nat.le_of_ble_eq_true rfl)
theorem dad_SP : Statement .dad_SP := of_operandBytes (Nat.le_of_ble_eq_true rfl)
theorem dcx_SP : Statement .dcx_SP := of_operandBytes (Nat.le_of_ble_eq_true rfl)
theorem inr_A : Statement .inr_A := of_operandBytes (Nat.le_of_ble_eq_true rfl)
theorem dcr_A : Statement .dcr_A := of_operandBytes (Nat.le_of_ble_eq_true rfl)
theorem cmc : Statement .cmc := of_operandBytes (Nat.le_of_ble_eq_true rfl)
theorem mov_B_B : Statement .mov_B_B := of_operandBytes (Nat.le_of_ble_eq_true rfl)
theorem mov_B_C : Statement .mov_B_C := of_operandBytes (Nat.le_of_ble_eq_true rfl)
theorem mov_B_D : Statement .mov_B_D := of_operandBytes (Nat.le_of_ble_eq_true rfl)
theorem mov_B_E : Statement .mov_B_E := of_operandBytes (Nat.le_of_ble_eq_true rfl)
theorem mov_B_H : Statement .mov_B_H := of_operandBytes (Nat.le_of_ble_eq_true rfl)
theorem mov_B_L : Statement .mov_B_L := of_operandBytes (Nat.le_of_ble_eq_true rfl)
theorem mov_B_M : Statement .mov_B_M := of_operandBytes (Nat.le_of_ble_eq_true rfl)
theorem mov_B_A : Statement .mov_B_A := of_operandBytes (Nat.le_of_ble_eq_true rfl)
theorem mov_C_B : Statement .mov_C_B := of_operandBytes (Nat.le_of_ble_eq_true rfl)
theorem mov_C_C : Statement .mov_C_C := of_operandBytes (Nat.le_of_ble_eq_true rfl)
theorem mov_C_D : Statement .mov_C_D := of_operandBytes (Nat.le_of_ble_eq_true rfl)
theorem mov_C_E : Statement .mov_C_E := of_operandBytes (Nat.le_of_ble_eq_true rfl)
theorem mov_C_H : Statement .mov_C_H := of_operandBytes (Nat.le_of_ble_eq_true rfl)
theorem mov_C_L : Statement .mov_C_L := of_operandBytes (Nat.le_of_ble_eq_true rfl)
theorem mov_C_M : Statement .mov_C_M := of_operandBytes (Nat.le_of_ble_eq_true rfl)
theorem mov_C_A : Statement .mov_C_A := of_operandBytes (Nat.le_of_ble_eq_true rfl)
theorem mov_D_B : Statement .mov_D_B := of_operandBytes (Nat.le_of_ble_eq_true rfl)
theorem mov_D_C : Statement .mov_D_C := of_operandBytes (Nat.le_of_ble_eq_true rfl)
theorem mov_D_D : Statement .mov_D_D := of_operandBytes (Nat.le_of_ble_eq_true rfl)
theorem mov_D_E : Statement .mov_D_E := of_operandBytes (Nat.le_of_ble_eq_true rfl)
theorem mov_D_H : Statement .mov_D_H := of_operandBytes (Nat.le_of_ble_eq_true rfl)
theorem mov_D_L : Statement .mov_D_L := of_operandBytes (Nat.le_of_ble_eq_true rfl)
theorem mov_D_M : Statement .mov_D_M := of_operandBytes (Nat.le_of_ble_eq_true rfl)
theorem mov_D_A : Statement .mov_D_A := of_operandBytes (Nat.le_of_ble_eq_true rfl)
theorem mov_E_B : Statement .mov_E_B := of_operandBytes (Nat.le_of_ble_eq_true rfl)
theorem mov_E_C : Statement .mov_E_C := of_operandBytes (Nat.le_of_ble_eq_true rfl)
theorem mov_E_D : Statement .mov_E_D := of_operandBytes (Nat.le_of_ble_eq_true rfl)
theorem mov_E_E : Statement .mov_E_E := of_operandBytes (Nat.le_of_ble_eq_true rfl)
theorem mov_E_H : Statement .mov_E_H := of_operandBytes (Nat.le_of_ble_eq_true rfl)
theorem mov_E_L : Statement .mov_E_L := of_operandBytes (Nat.le_of_ble_eq_true rfl)
theorem mov_E_M : Statement .mov_E_M := of_operandBytes (Nat.le_of_ble_eq_true rfl)
theorem mov_E_A : Statement .mov_E_A := of_operandBytes (Nat.le_of_ble_eq_true rfl)
theorem mov_H_B : Statement .mov_H_B := of_operandBytes (Nat.le_of_ble_eq_true rfl)
theorem mov_H_C : Statement .mov_H_C := of_operandBytes (Nat.le_of_ble_eq_true rfl)
theorem mov_H_D : Statement .mov_H_D := of_operandBytes (Nat.le_of_ble_eq_true rfl)
theorem mov_H_E : Statement .mov_H_E := of_operandBytes (Nat.le_of_ble_eq_true rfl)
theorem mov_H_H : Statement .mov_H_H := of_operandBytes (Nat.le_of_ble_eq_true rfl)
theorem mov_H_L : Statement .mov_H_L := of_operandBytes (Nat.le_of_ble_eq_true rfl)
theorem mov_H_M : Statement .mov_H_M := of_operandBytes (Nat.le_of_ble_eq_true rfl)
theorem mov_H_A : Statement .mov_H_A := of_operandBytes (Nat.le_of_ble_eq_true rfl)
theorem mov_L_B : Statement .mov_L_B := of_operandBytes (Nat.le_of_ble_eq_true rfl)
theorem mov_L_C : Statement .mov_L_C := of_operandBytes (Nat.le_of_ble_eq_true rfl)
theorem mov_L_D : Statement .mov_L_D := of_operandBytes (Nat.le_of_ble_eq_true rfl)
theorem mov_L_E : Statement .mov_L_E := of_operandBytes (Nat.le_of_ble_eq_true rfl)
theorem mov_L_H : Statement .mov_L_H := of_operandBytes (Nat.le_of_ble_eq_true rfl)
theorem mov_L_L : Statement .mov_L_L := of_operandBytes (Nat.le_of_ble_eq_true rfl)
theorem mov_L_M : Statement .mov_L_M := of_operandBytes (Nat.le_of_ble_eq_true rfl)
theorem mov_L_A : Statement .mov_L_A := of_operandBytes (Nat.le_of_ble_eq_true rfl)
theorem mov_M_B : Statement .mov_M_B := of_operandBytes (Nat.le_of_ble_eq_true rfl)
theorem mov_M_C : Statement .mov_M_C := of_operandBytes (Nat.le_of_ble_eq_true rfl)
theorem mov_M_D : Statement .mov_M_D := of_operandBytes (Nat.le_of_ble_eq_true rfl)
theorem mov_M_E : Statement .mov_M_E := of_operandBytes (Nat.le_of_ble_eq_true rfl)
theorem mov_M_H : Statement .mov_M_H := of_operandBytes (Nat.le_of_ble_eq_true rfl)
theorem mov_M_L : Statement .mov_M_L := of_operandBytes (Nat.le_of_ble_eq_true rfl)
theorem hlt : Statement .hlt := of_operandBytes (Nat.le_of_ble_eq_true rfl)
theorem mov_M_A : Statement .mov_M_A := of_operandBytes (Nat.le_of_ble_eq_true rfl)
theorem mov_A_B : Statement .mov_A_B := of_operandBytes (Nat.le_of_ble_eq_true rfl)
theorem mov_A_C : Statement .mov_A_C := of_operandBytes (Nat.le_of_ble_eq_true rfl)
theorem mov_A_D : Statement .mov_A_D := of_operandBytes (Nat.le_of_ble_eq_true rfl)
theorem mov_A_E : Statement .mov_A_E := of_operandBytes (Nat.le_of_ble_eq_true rfl)
theorem mov_A_H : Statement .mov_A_H := of_operandBytes (Nat.le_of_ble_eq_true rfl)
theorem mov_A_L : Statement .mov_A_L := of_operandBytes (Nat.le_of_ble_eq_true rfl)
theorem mov_A_M : Statement .mov_A_M := of_operandBytes (Nat.le_of_ble_eq_true rfl)
theorem mov_A_A : Statement .mov_A_A := of_operandBytes (Nat.le_of_ble_eq_true rfl)
theorem add_B : Statement .add_B := of_operandBytes (Nat.le_of_ble_eq_true rfl)
theorem add_C : Statement .add_C := of_operandBytes (Nat.le_of_ble_eq_true rfl)
theorem add_D : Statement .add_D := of_operandBytes (Nat.le_of_ble_eq_true rfl)
theorem add_E : Statement .add_E := of_operandBytes (Nat.le_of_ble_eq_true rfl)
theorem add_H : Statement .add_H := of_operandBytes (Nat.le_of_ble_eq_true rfl)
theorem add_L : Statement .add_L := of_operandBytes (Nat.le_of_ble_eq_true rfl)
theorem add_M : Statement .add_M := of_operandBytes (Nat.le_of_ble_eq_true rfl)
theorem add_A : Statement .add_A := of_operandBytes (Nat.le_of_ble_eq_true rfl)
theorem adc_B : Statement .adc_B := of_operandBytes (Nat.le_of_ble_eq_true rfl)
theorem adc_C : Statement .adc_C := of_operandBytes (Nat.le_of_ble_eq_true rfl)
theorem adc_D : Statement .adc_D := of_operandBytes (Nat.le_of_ble_eq_true rfl)
theorem adc_E : Statement .adc_E := of_operandBytes (Nat.le_of_ble_eq_true rfl)
theorem adc_H : Statement .adc_H := of_operandBytes (Nat.le_of_ble_eq_true rfl)
theorem adc_L : Statement .adc_L := of_operandBytes (Nat.le_of_ble_eq_true rfl)
theorem adc_M : Statement .adc_M := of_operandBytes (Nat.le_of_ble_eq_true rfl)
theorem adc_A : Statement .adc_A := of_operandBytes (Nat.le_of_ble_eq_true rfl)
theorem sub_B : Statement .sub_B := of_operandBytes (Nat.le_of_ble_eq_true rfl)
theorem sub_C : Statement .sub_C := of_operandBytes (Nat.le_of_ble_eq_true rfl)
theorem sub_D : Statement .sub_D := of_operandBytes (Nat.le_of_ble_eq_true rfl)
theorem sub_E : Statement .sub_E := of_operandBytes (Nat.le_of_ble_eq_true rfl)
theorem sub_H : Statement .sub_H := of_operandBytes (Nat.le_of_ble_eq_true rfl)
theorem sub_L : Statement .sub_L := of_operandBytes (Nat.le_of_ble_eq_true rfl)
theorem sub_M : Statement .sub_M := of_operandBytes (Nat.le_of_ble_eq_true rfl)
theorem sub_A : Statement .sub_A := of_operandBytes (Nat.le_of_ble_eq_true rfl)
theorem sbb_B : Statement .sbb_B := of_operandBytes (Nat.le_of_ble_eq_true rfl)
theorem sbb_C : Statement .sbb_C := of_operandBytes (Nat.le_of_ble_eq_true rfl)
theorem sbb_D : Statement .sbb_D := of_operandBytes (Nat.le_of_ble_eq_true rfl)
theorem sbb_E : Statement .sbb_E := of_operandBytes (Nat.le_of_ble_eq_true rfl)
theorem sbb_H : Statement .sbb_H := of_operandBytes (Nat.le_of_ble_eq_true rfl)
theorem sbb_L : Statement .sbb_L := of_operandBytes (Nat.le_of_ble_eq_true rfl)
theorem sbb_M : Statement .sbb_M := of_operandBytes (Nat.le_of_ble_eq_true rfl)
theorem sbb_A : Statement .sbb_A := of_operandBytes (Nat.le_of_ble_eq_true rfl)
theorem ana_B : Statement .ana_B := of_operandBytes (Nat.le_of_ble_eq_true rfl)
theorem ana_C : Statement .ana_C := of_operandBytes (Nat.le_of_ble_eq_true rfl)
theorem ana_D : Statement .ana_D := of_operandBytes (Nat.le_of_ble_eq_true rfl)
theorem ana_E : Statement .ana_E := of_operandBytes (Nat.le_of_ble_eq_true rfl)
theorem ana_H : Statement .ana_H := of_operandBytes (Nat.le_of_ble_eq_true rfl)
theorem ana_L : Statement .ana_L := of_operandBytes (Nat.le_of_ble_eq_true rfl)
theorem ana_M : Statement .ana_M := of_operandBytes (Nat.le_of_ble_eq_true rfl)
theorem ana_A : Statement .ana_A := of_operandBytes (Nat.le_of_ble_eq_true rfl)
theorem xra_B : Statement .xra_B := of_operandBytes (Nat.le_of_ble_eq_true rfl)
theorem xra_C : Statement .xra_C := of_operandBytes (Nat.le_of_ble_eq_true rfl)
theorem xra_D : Statement .xra_D := of_operandBytes (Nat.le_of_ble_eq_true rfl)
theorem xra_E : Statement .xra_E := of_operandBytes (Nat.le_of_ble_eq_true rfl)
theorem xra_H : Statement .xra_H := of_operandBytes (Nat.le_of_ble_eq_true rfl)
theorem xra_L : Statement .xra_L := of_operandBytes (Nat.le_of_ble_eq_true rfl)
theorem xra_M : Statement .xra_M := of_operandBytes (Nat.le_of_ble_eq_true rfl)
theorem xra_A : Statement .xra_A := of_operandBytes (Nat.le_of_ble_eq_true rfl)
theorem ora_B : Statement .ora_B := of_operandBytes (Nat.le_of_ble_eq_true rfl)
theorem ora_C : Statement .ora_C := of_operandBytes (Nat.le_of_ble_eq_true rfl)
theorem ora_D : Statement .ora_D := of_operandBytes (Nat.le_of_ble_eq_true rfl)
theorem ora_E : Statement .ora_E := of_operandBytes (Nat.le_of_ble_eq_true rfl)
theorem ora_H : Statement .ora_H := of_operandBytes (Nat.le_of_ble_eq_true rfl)
theorem ora_L : Statement .ora_L := of_operandBytes (Nat.le_of_ble_eq_true rfl)
theorem ora_M : Statement .ora_M := of_operandBytes (Nat.le_of_ble_eq_true rfl)
theorem ora_A : Statement .ora_A := of_operandBytes (Nat.le_of_ble_eq_true rfl)
theorem cmp_B : Statement .cmp_B := of_operandBytes (Nat.le_of_ble_eq_true rfl)
theorem cmp_C : Statement .cmp_C := of_operandBytes (Nat.le_of_ble_eq_true rfl)
theorem cmp_D : Statement .cmp_D := of_operandBytes (Nat.le_of_ble_eq_true rfl)
theorem cmp_E : Statement .cmp_E := of_operandBytes (Nat.le_of_ble_eq_true rfl)
theorem cmp_H : Statement .cmp_H := of_operandBytes (Nat.le_of_ble_eq_true rfl)
theorem cmp_L : Statement .cmp_L := of_operandBytes (Nat.le_of_ble_eq_true rfl)
theorem cmp_M : Statement .cmp_M := of_operandBytes (Nat.le_of_ble_eq_true rfl)
theorem cmp_A : Statement .cmp_A := of_operandBytes (Nat.le_of_ble_eq_true rfl)
theorem rnz : Statement .rnz := of_operandBytes (Nat.le_of_ble_eq_true rfl)
theorem pop_B : Statement .pop_B := of_operandBytes (Nat.le_of_ble_eq_true rfl)
theorem push_B : Statement .push_B := of_operandBytes (Nat.le_of_ble_eq_true rfl)
theorem rst_0 : Statement .rst_0 := of_operandBytes (Nat.le_of_ble_eq_true rfl)
theorem rz : Statement .rz := of_operandBytes (Nat.le_of_ble_eq_true rfl)
theorem ret : Statement .ret := of_operandBytes (Nat.le_of_ble_eq_true rfl)
theorem rst_1 : Statement .rst_1 := of_operandBytes (Nat.le_of_ble_eq_true rfl)
theorem rnc : Statement .rnc := of_operandBytes (Nat.le_of_ble_eq_true rfl)
theorem pop_D : Statement .pop_D := of_operandBytes (Nat.le_of_ble_eq_true rfl)
theorem push_D : Statement .push_D := of_operandBytes (Nat.le_of_ble_eq_true rfl)
theorem rst_2 : Statement .rst_2 := of_operandBytes (Nat.le_of_ble_eq_true rfl)
theorem rc : Statement .rc := of_operandBytes (Nat.le_of_ble_eq_true rfl)
theorem rst_3 : Statement .rst_3 := of_operandBytes (Nat.le_of_ble_eq_true rfl)
theorem rpo : Statement .rpo := of_operandBytes (Nat.le_of_ble_eq_true rfl)
theorem pop_H : Statement .pop_H := of_operandBytes (Nat.le_of_ble_eq_true rfl)
theorem xthl : Statement .xthl := of_operandBytes (Nat.le_of_ble_eq_true rfl)
theorem push_H : Statement .push_H := of_operandBytes (Nat.le_of_ble_eq_true rfl)
theorem rst_4 : Statement .rst_4 := of_operandBytes (Nat.le_of_ble_eq_true rfl)
theorem rpe : Statement .rpe := of_operandBytes (Nat.le_of_ble_eq_true rfl)
theorem pchl : Statement .pchl := of_operandBytes (Nat.le_of_ble_eq_true rfl)
theorem xchg : Statement .xchg := of_operandBytes (Nat.le_of_ble_eq_true rfl)
theorem rst_5 : Statement .rst_5 := of_operandBytes (Nat.le_of_ble_eq_true rfl)
theorem rp : Statement .rp := of_operandBytes (Nat.le_of_ble_eq_true rfl)
theorem pop_PSW : Statement .pop_PSW := of_operandBytes (Nat.le_of_ble_eq_true rfl)
theorem di : Statement .di := of_operandBytes (Nat.le_of_ble_eq_true rfl)
theorem push_PSW : Statement .push_PSW := of_operandBytes (Nat.le_of_ble_eq_true rfl)
theorem rst_6 : Statement .rst_6 := of_operandBytes (Nat.le_of_ble_eq_true rfl)
theorem rm : Statement .rm := of_operandBytes (Nat.le_of_ble_eq_true rfl)
theorem sphl : Statement .sphl := of_operandBytes (Nat.le_of_ble_eq_true rfl)
theorem ei : Statement .ei := of_operandBytes (Nat.le_of_ble_eq_true rfl)
theorem rst_7 : Statement .rst_7 := of_operandBytes (Nat.le_of_ble_eq_true rfl)

end Sys2Proof.Laws.EncodedLength
end

