-- ==== Sys2Proof/Laws/Step.lean ====
section
/-! SUPPORT. What a step can do, said once; and what the fetch decodes. -/

namespace Sys2Proof.Machine

/-- Decoding the three bytes at the program counter gives the instruction of the fetch (R200). -/
theorem State.fetch_of_decodeBytes {s : State} {quit : Byte} {i : Instr} {rest : List Byte}
    (h : decodeBytes quit [s.memRead s.pc, s.memRead (s.pc + 1), s.memRead (s.pc + 2)] = .ok (i, rest)) :
    s.fetch quit = i := by
  simp only [decodeBytes] at h
  simp only [State.fetch, decode3, State.opcode, State.imm8]
  cases he : entryOf quit (s.memRead s.pc) <;> rw [he] at h <;> cases h <;> rfl

/-- Charging a cost adds to the counter unless a fault is latched, and changes nothing else (R212, R246). -/
theorem charge_eq (cost : Nat) (t : State) :
    charge cost t = { t with cyc := if t.fault = none then t.cyc + cost else t.cyc } := by
  obtain ⟨_, _, _, _, _, _, _, _, _, _, _, _, _, _, _, _, _ | _, _, _, _⟩ := t <;> rfl

/-- What a step that has a next state did: nothing, the service of a latched interrupt, or one instruction (R200). -/
inductive StepEffect (p : Parameters) (s : State) : State → Prop
  | stopped (hf : s.fault = none) (hs : s.stopped = true) : StepEffect p s s
  | halted (hf : s.fault = none) (hs : s.stopped = false) (hh : s.halted = true) : StepEffect p s s
  | service (hf : s.fault = none) (hs : s.stopped = false) (hh : s.halted = false) (target : Word)
      (hl : s.latch = some target) : StepEffect p s (s.serviceInterrupt p.intCost target)
  | instr (hf : s.fault = none) (hs : s.stopped = false) (hh : s.halted = false) (hl : s.latch = none) (t : State)
      (he : exec (s.fetch p.quitOpcode) s = .next t) (h : Effect s (s.fetch p.quitOpcode) t) :
      StepEffect p s (charge (cycleCost p s.opcode s) t)

/-- While no fault is latched a step has a next state, reached by one of the effects of `StepEffect`. -/
theorem stepWith_effect (p : Parameters) {s : State} (hf : s.fault = none) :
    ∃ t, stepWith p s = .next t ∧ StepEffect p s t := by
  obtain ⟨t, he, h⟩ := exec_effect (s.fetch p.quitOpcode) s
  cases hs : s.stopped with
  | true => exact ⟨s, by simp [stepWith, hf, hs], .stopped hf hs⟩
  | false =>
    cases hh : s.halted with
    | true => exact ⟨s, by simp [stepWith, hf, hs, hh], .halted hf hs hh⟩
    | false =>
      cases hl : s.latch with
      | some v => exact ⟨_, by simp [stepWith, hf, hs, hh, hl], .service hf hs hh v hl⟩
      | none =>
        exact ⟨_, by simp [stepWith, hf, hs, hh, hl, runInstr, he], .instr hf hs hh hl t he h⟩

/-- A latched fault stops every step (R29, R200). -/
theorem stepWith_fault (p : Parameters) {s : State} {r : Fault} (h : s.fault = some r) : stepWith p s = .fault r := by
  simp [stepWith, h]

/-- The effect of a step, from its next state. -/
theorem stepEffect_of_next {p : Parameters} {s t : State} (h : stepWith p s = .next t) :
    s.fault = none ∧ StepEffect p s t := by
  cases hf : s.fault with
  | some r =>
    rw [stepWith_fault p hf] at h
    cases h
  | none =>
    obtain ⟨u, hu, he⟩ := stepWith_effect p hf
    rw [hu] at h
    cases h
    exact ⟨rfl, he⟩

end Sys2Proof.Machine
end

