-- ==== Sys2Proof/Laws/Run.lean ====
section
/-! SUPPORT. The run-mode loop, one step at a time. -/

namespace Sys2Proof.Machine

/-- The loop's test as a Bool and as a proposition (R238). -/
theorem State.runContinues_iff (s : State) : s.runContinues = true ↔ LoopTest s := by
  simp [State.runContinues, LoopTest, and_assoc]

/-- Where the loop's test fails the run is over, however many steps are allowed. -/
theorem runModeWith_of_not_test (p : Parameters) (fuel : Nat) {s : State} (h : ¬LoopTest s) :
    runModeWith p fuel s = .ended s := by
  rw [← s.runContinues_iff] at h
  cases fuel <;> simp [runModeWith, h]

/-- Where the loop's test holds and no step is left, the run is unfinished. -/
theorem runModeWith_zero_of_test (p : Parameters) {s : State} (h : LoopTest s) :
    runModeWith p 0 s = .unfinished s := by
  simp [runModeWith, s.runContinues_iff.mpr h]

/-- Where the loop's test holds the loop takes one step, which has a next state, and goes on from there. -/
theorem runModeWith_succ_of_test (p : Parameters) (fuel : Nat) {s : State} (h : LoopTest s) :
    ∃ u, stepWith p s = .next u ∧ runModeWith p (fuel + 1) s = runModeWith p fuel u := by
  obtain ⟨u, hu, -⟩ := stepWith_effect p h.1
  exact ⟨u, hu, by simp [runModeWith, s.runContinues_iff.mpr h, hu]⟩

/-- One step, and then the rest. -/
theorem coreWith_run_succ {p : Parameters} {n : Nat} {s u : State} (h : stepWith p s = .next u) :
    (coreWith p).run (n + 1) s = (coreWith p).run n u := by
  have h' : (coreWith p).step s = .next u := h
  simp [Host.Core.run, h']

end Sys2Proof.Machine
end

