-- ==== Sys2Proof/Tests/Slice0.lean ====
section
/-! SUPPORT. Small tests of the model on values the spec gives (95_test_vectors.md), and for every statement with
hypotheses a concrete case that meets them all. -/

namespace Sys2Proof.Tests

open Sys2Proof Sys2Proof.Machine

/-- Places bytes in the memory from an address on. -/
def put (s : State) (addr : Nat) (bytes : List Byte) : State := { s with mem := s.mem.copyIn addr bytes }

/-- The outcome is a next state and satisfies a condition. -/
def isNext (o : Out) (good : State → Bool) : Bool :=
  match o with
  | .next t => good t
  | .fault _ => false
  | .refused _ => false

/-- One step answers a next state that satisfies a condition. -/
def nextSatisfies (s : State) (good : State → Bool) : Bool := isNext (step s) good

/-! ### Well-formedness -/

theorem test_wellFormed_refuses_a_byte_that_is_an_instruction :
    (Instr.unrecognized 0x00).wellFormed = false := by decide

theorem test_wellFormed_refuses_the_quit_byte : (Instr.unrecognized 0x08).wellFormed = false := by decide

theorem test_wellFormed_follows_the_quit_byte :
    ((Instr.unrecognized 0x08).wellFormedFor 0x10 && !(Instr.unrecognized 0x10).wellFormedFor 0x10) = true := by decide

theorem test_wellFormed_accepts : ((Instr.unrecognized 0xED).wellFormed && Instr.wellFormed .hlt
    && Instr.wellFormed (.jm 0xFFFF) && Instr.wellFormed (.adi 0xFF) && Instr.wellFormed .quit) = true := by decide

/-! ### Decoding: the 256 words of the opcode table, written from its `encoding` and field columns, the operand
bytes being 0x34 and 0x12 -/

/-- Each opcode byte, followed by the bytes 0x34 and 0x12, decodes to the instruction beside it. -/
def decodeTo (rows : List (Nat × Instr)) : Bool := rows.all (fun r => decodeTableWord 24 (0x123400 + r.1) == some r.2)

theorem test_decode_row_0 : decodeTo
    [(0b00000000, .nop), (0b00_00_0001, .lxi_B 0x1234), (0b000_0_0010, .stax_B), (0b00_00_0011, .inx_B),
     (0b00_000_100, .inr_B), (0b00_000_101, .dcr_B), (0b00_000_110, .mvi_B 0x34), (0b00000111, .rlc),
     (0b00001000, .quit), (0b00_00_1001, .dad_B), (0b000_0_1010, .ldax_B), (0b00_00_1011, .dcx_B),
     (0b00_001_100, .inr_C), (0b00_001_101, .dcr_C), (0b00_001_110, .mvi_C 0x34), (0b00001111, .rrc)] = true := by
  decide

theorem test_decode_row_1 : decodeTo
    [(0b00010000, .unrecognized 0x10), (0b00_01_0001, .lxi_D 0x1234), (0b000_1_0010, .stax_D),
     (0b00_01_0011, .inx_D), (0b00_010_100, .inr_D), (0b00_010_101, .dcr_D), (0b00_010_110, .mvi_D 0x34),
     (0b00010111, .ral), (0b00011000, .unrecognized 0x18), (0b00_01_1001, .dad_D), (0b000_1_1010, .ldax_D),
     (0b00_01_1011, .dcx_D), (0b00_011_100, .inr_E), (0b00_011_101, .dcr_E), (0b00_011_110, .mvi_E 0x34),
     (0b00011111, .rar)] = true := by
  decide

theorem test_decode_row_2 : decodeTo
    [(0b00100000, .unrecognized 0x20), (0b00_10_0001, .lxi_H 0x1234), (0b00100010, .shld 0x1234),
     (0b00_10_0011, .inx_H), (0b00_100_100, .inr_H), (0b00_100_101, .dcr_H), (0b00_100_110, .mvi_H 0x34),
     (0b00100111, .daa), (0b00101000, .unrecognized 0x28), (0b00_10_1001, .dad_H), (0b00101010, .lhld 0x1234),
     (0b00_10_1011, .dcx_H), (0b00_101_100, .inr_L), (0b00_101_101, .dcr_L), (0b00_101_110, .mvi_L 0x34),
     (0b00101111, .cma)] = true := by
  decide

theorem test_decode_row_3 : decodeTo
    [(0b00110000, .unrecognized 0x30), (0b00_11_0001, .lxi_SP 0x1234), (0b00110010, .sta 0x1234),
     (0b00_11_0011, .inx_SP), (0b00_110_100, .inr_M), (0b00_110_101, .dcr_M), (0b00_110_110, .mvi_M 0x34),
     (0b00110111, .stc), (0b00111000, .unrecognized 0x38), (0b00_11_1001, .dad_SP), (0b00111010, .lda 0x1234),
     (0b00_11_1011, .dcx_SP), (0b00_111_100, .inr_A), (0b00_111_101, .dcr_A), (0b00_111_110, .mvi_A 0x34),
     (0b00111111, .cmc)] = true := by
  decide

theorem test_decode_row_4 : decodeTo
    [(0b01_000_000, .mov_B_B), (0b01_000_001, .mov_B_C), (0b01_000_010, .mov_B_D), (0b01_000_011, .mov_B_E),
     (0b01_000_100, .mov_B_H), (0b01_000_101, .mov_B_L), (0b01_000_110, .mov_B_M), (0b01_000_111, .mov_B_A),
     (0b01_001_000, .mov_C_B), (0b01_001_001, .mov_C_C), (0b01_001_010, .mov_C_D), (0b01_001_011, .mov_C_E),
     (0b01_001_100, .mov_C_H), (0b01_001_101, .mov_C_L), (0b01_001_110, .mov_C_M), (0b01_001_111, .mov_C_A)] = true := by
  decide

theorem test_decode_row_5 : decodeTo
    [(0b01_010_000, .mov_D_B), (0b01_010_001, .mov_D_C), (0b01_010_010, .mov_D_D), (0b01_010_011, .mov_D_E),
     (0b01_010_100, .mov_D_H), (0b01_010_101, .mov_D_L), (0b01_010_110, .mov_D_M), (0b01_010_111, .mov_D_A),
     (0b01_011_000, .mov_E_B), (0b01_011_001, .mov_E_C), (0b01_011_010, .mov_E_D), (0b01_011_011, .mov_E_E),
     (0b01_011_100, .mov_E_H), (0b01_011_101, .mov_E_L), (0b01_011_110, .mov_E_M), (0b01_011_111, .mov_E_A)] = true := by
  decide

theorem test_decode_row_6 : decodeTo
    [(0b01_100_000, .mov_H_B), (0b01_100_001, .mov_H_C), (0b01_100_010, .mov_H_D), (0b01_100_011, .mov_H_E),
     (0b01_100_100, .mov_H_H), (0b01_100_101, .mov_H_L), (0b01_100_110, .mov_H_M), (0b01_100_111, .mov_H_A),
     (0b01_101_000, .mov_L_B), (0b01_101_001, .mov_L_C), (0b01_101_010, .mov_L_D), (0b01_101_011, .mov_L_E),
     (0b01_101_100, .mov_L_H), (0b01_101_101, .mov_L_L), (0b01_101_110, .mov_L_M), (0b01_101_111, .mov_L_A)] = true := by
  decide

theorem test_decode_row_7 : decodeTo
    [(0b01_110_000, .mov_M_B), (0b01_110_001, .mov_M_C), (0b01_110_010, .mov_M_D), (0b01_110_011, .mov_M_E),
     (0b01_110_100, .mov_M_H), (0b01_110_101, .mov_M_L), (0b01110110, .hlt), (0b01_110_111, .mov_M_A),
     (0b01_111_000, .mov_A_B), (0b01_111_001, .mov_A_C), (0b01_111_010, .mov_A_D), (0b01_111_011, .mov_A_E),
     (0b01_111_100, .mov_A_H), (0b01_111_101, .mov_A_L), (0b01_111_110, .mov_A_M), (0b01_111_111, .mov_A_A)] = true := by
  decide

theorem test_decode_row_8 : decodeTo
    [(0b10000_000, .add_B), (0b10000_001, .add_C), (0b10000_010, .add_D), (0b10000_011, .add_E),
     (0b10000_100, .add_H), (0b10000_101, .add_L), (0b10000_110, .add_M), (0b10000_111, .add_A),
     (0b10001_000, .adc_B), (0b10001_001, .adc_C), (0b10001_010, .adc_D), (0b10001_011, .adc_E),
     (0b10001_100, .adc_H), (0b10001_101, .adc_L), (0b10001_110, .adc_M), (0b10001_111, .adc_A)] = true := by
  decide

theorem test_decode_row_9 : decodeTo
    [(0b10010_000, .sub_B), (0b10010_001, .sub_C), (0b10010_010, .sub_D), (0b10010_011, .sub_E),
     (0b10010_100, .sub_H), (0b10010_101, .sub_L), (0b10010_110, .sub_M), (0b10010_111, .sub_A),
     (0b10011_000, .sbb_B), (0b10011_001, .sbb_C), (0b10011_010, .sbb_D), (0b10011_011, .sbb_E),
     (0b10011_100, .sbb_H), (0b10011_101, .sbb_L), (0b10011_110, .sbb_M), (0b10011_111, .sbb_A)] = true := by
  decide

theorem test_decode_row_A : decodeTo
    [(0b10100_000, .ana_B), (0b10100_001, .ana_C), (0b10100_010, .ana_D), (0b10100_011, .ana_E),
     (0b10100_100, .ana_H), (0b10100_101, .ana_L), (0b10100_110, .ana_M), (0b10100_111, .ana_A),
     (0b10101_000, .xra_B), (0b10101_001, .xra_C), (0b10101_010, .xra_D), (0b10101_011, .xra_E),
     (0b10101_100, .xra_H), (0b10101_101, .xra_L), (0b10101_110, .xra_M), (0b10101_111, .xra_A)] = true := by
  decide

theorem test_decode_row_B : decodeTo
    [(0b10110_000, .ora_B), (0b10110_001, .ora_C), (0b10110_010, .ora_D), (0b10110_011, .ora_E),
     (0b10110_100, .ora_H), (0b10110_101, .ora_L), (0b10110_110, .ora_M), (0b10110_111, .ora_A),
     (0b10111_000, .cmp_B), (0b10111_001, .cmp_C), (0b10111_010, .cmp_D), (0b10111_011, .cmp_E),
     (0b10111_100, .cmp_H), (0b10111_101, .cmp_L), (0b10111_110, .cmp_M), (0b10111_111, .cmp_A)] = true := by
  decide

theorem test_decode_row_C : decodeTo
    [(0b11_000_000, .rnz), (0b11_00_0001, .pop_B), (0b11_000_010, .jnz 0x1234), (0b11000011, .jmp 0x1234),
     (0b11_000_100, .cnz 0x1234), (0b11_00_0101, .push_B), (0b11000110, .adi 0x34), (0b11_000_111, .rst_0),
     (0b11_001_000, .rz), (0b11001001, .ret), (0b11_001_010, .jz 0x1234), (0b11001011, .unrecognized 0xCB),
     (0b11_001_100, .cz 0x1234), (0b11001101, .call 0x1234), (0b11001110, .aci 0x34), (0b11_001_111, .rst_1)] = true := by
  decide

theorem test_decode_row_D : decodeTo
    [(0b11_010_000, .rnc), (0b11_01_0001, .pop_D), (0b11_010_010, .jnc 0x1234), (0b11010011, .out 0x34),
     (0b11_010_100, .cnc 0x1234), (0b11_01_0101, .push_D), (0b11010110, .sui 0x34), (0b11_010_111, .rst_2),
     (0b11_011_000, .rc), (0b11011001, .unrecognized 0xD9), (0b11_011_010, .jc 0x1234), (0b11011011, .inp 0x34),
     (0b11_011_100, .cc 0x1234), (0b11011101, .unrecognized 0xDD), (0b11011110, .sbi 0x34), (0b11_011_111, .rst_3)] = true := by
  decide

theorem test_decode_row_E : decodeTo
    [(0b11_100_000, .rpo), (0b11_10_0001, .pop_H), (0b11_100_010, .jpo 0x1234), (0b11100011, .xthl),
     (0b11_100_100, .cpo 0x1234), (0b11_10_0101, .push_H), (0b11100110, .ani 0x34), (0b11_100_111, .rst_4),
     (0b11_101_000, .rpe), (0b11101001, .pchl), (0b11_101_010, .jpe 0x1234), (0b11101011, .xchg),
     (0b11_101_100, .cpe 0x1234), (0b11101101, .unrecognized 0xED), (0b11101110, .xri 0x34),
     (0b11_101_111, .rst_5)] = true := by
  decide

theorem test_decode_row_F : decodeTo
    [(0b11_110_000, .rp), (0b11_11_0001, .pop_PSW), (0b11_110_010, .jp 0x1234), (0b11110011, .di),
     (0b11_110_100, .cp 0x1234), (0b11_11_0101, .push_PSW), (0b11110110, .ori 0x34), (0b11_110_111, .rst_6),
     (0b11_111_000, .rm), (0b11111001, .sphl), (0b11_111_010, .jm 0x1234), (0b11111011, .ei),
     (0b11_111_100, .cm 0x1234), (0b11111101, .unrecognized 0xFD), (0b11111110, .cpi 0x34), (0b11_111_111, .rst_7)] = true := by
  decide

theorem test_decode_quit_byte_is_a_parameter :
    (decode3 0xFD 0xFD 0 0 == .quit && decode3 0xFD 0x08 0 0 == .unrecognized 0x08) = true := by decide

theorem test_decode_truncated : ((decodeBytes 0x08 [0xCD, 0x34] matches .error (.truncated 0xCD))
    && (decodeBytes 0x08 [] matches .error .empty)) = true := by decide

theorem test_encode_call : encode 0x08 (.call 0x1234) = [0xCD, 0x34, 0x12] := by decide

/-! ### Arithmetic (95_test_vectors.md section 2) -/

theorem test_add_sign : nextSatisfies
    (put { State.reset with a := 0x2E, b := 0x6C } 0x0000 [0x80])
    (fun t => t.a == 0x9A && t.f == 0x86 && t.pc == 0x0001) = true := by decide

theorem test_add_probe_is_not_carry : nextSatisfies
    (put { State.reset with a := 0x01, b := 0xFF } 0x0000 [0x80])
    (fun t => t.a == 0x00 && t.f == 0x46) = true := by decide

theorem test_add_a_to_itself : nextSatisfies
    (put { State.reset with a := 0x88 } 0x0000 [0x87])
    (fun t => t.a == 0x10 && t.f == 0x13) = true := by decide

theorem test_add_memory : nextSatisfies
    (put (put { State.reset with a := 0x01, h := 0x20 } 0x0000 [0x86]) 0x2000 [0x7F])
    (fun t => t.a == 0x80 && t.f == 0x82) = true := by decide

theorem test_adi : nextSatisfies
    (put { State.reset with a := 0x14 } 0x0000 [0xC6, 0x42])
    (fun t => t.a == 0x56 && t.f == 0x06 && t.pc == 0x0002) = true := by decide

theorem test_adc_with_carry : nextSatisfies
    (put { State.reset with a := 0x3D, c := 0x42, f := 0x03 } 0x0000 [0x89])
    (fun t => t.a == 0x80 && t.f == 0x92) = true := by decide

theorem test_adc_carry_added_first : nextSatisfies
    (put { State.reset with a := 0x0F, f := 0x03 } 0x0000 [0x89])
    (fun t => t.a == 0x10 && t.f == 0x12) = true := by decide

theorem test_aci : nextSatisfies
    (put { State.reset with a := 0x56, f := 0x03 } 0x0000 [0xCE, 0xBE])
    (fun t => t.a == 0x15 && t.f == 0x02) = true := by decide

theorem test_sub_no_borrow : nextSatisfies
    (put { State.reset with a := 0x80, b := 0x01 } 0x0000 [0x90])
    (fun t => t.a == 0x7F && t.f == 0x03) = true := by decide

theorem test_sub_borrow : nextSatisfies
    (put { State.reset with a := 0x00, b := 0x01 } 0x0000 [0x90])
    (fun t => t.a == 0xFF && t.f == 0x86) = true := by decide

theorem test_sub_a_from_itself : nextSatisfies
    (put { State.reset with a := 0x3E } 0x0000 [0x97])
    (fun t => t.a == 0x00 && t.f == 0x56) = true := by decide

theorem test_sui : nextSatisfies
    (put { State.reset with a := 0x00 } 0x0000 [0xD6, 0x01])
    (fun t => t.a == 0xFF && t.f == 0x86) = true := by decide

theorem test_sbb_with_borrow : nextSatisfies
    (put { State.reset with a := 0x04, l := 0x02, f := 0x03 } 0x0000 [0x9D])
    (fun t => t.a == 0x01 && t.f == 0x02) = true := by decide

theorem test_sbb_borrow_wraps : nextSatisfies
    (put { State.reset with a := 0x00, l := 0xFF, f := 0x03 } 0x0000 [0x9D])
    (fun t => t.a == 0x00 && t.f == 0x46) = true := by decide

theorem test_sbi : nextSatisfies
    (put { State.reset with a := 0x00, f := 0x03 } 0x0000 [0xDE, 0x01])
    (fun t => t.a == 0xFE && t.f == 0x82) = true := by decide

theorem test_cmp_keeps_a : nextSatisfies
    (put { State.reset with a := 0x0A, e := 0x05 } 0x0000 [0xBB])
    (fun t => t.a == 0x0A && t.f == 0x16) = true := by decide

theorem test_cmp_equal : nextSatisfies
    (put { State.reset with a := 0x80, e := 0x80 } 0x0000 [0xBB])
    (fun t => t.a == 0x80 && t.f == 0x47) = true := by decide

theorem test_cpi : nextSatisfies
    (put { State.reset with a := 0x4A } 0x0000 [0xFE, 0x40])
    (fun t => t.a == 0x4A && t.f == 0x06) = true := by decide

theorem test_inr_keeps_carry : nextSatisfies
    (put { State.reset with c := 0x0F, f := 0x03 } 0x0000 [0x0C])
    (fun t => t.c == 0x10 && t.f == 0x13) = true := by decide

theorem test_inr_memory : nextSatisfies
    (put (put { State.reset with h := 0x20 } 0x0000 [0x34]) 0x2000 [0xFF])
    (fun t => t.memRead 0x2000 == 0x00 && t.f == 0x56) = true := by decide

theorem test_dcr_auxiliary_carry : nextSatisfies
    (put { State.reset with c := 0x08, f := 0x03 } 0x0000 [0x0D])
    (fun t => t.c == 0x07 && t.f == 0x13) = true := by decide

theorem test_dcr_memory : nextSatisfies
    (put (put { State.reset with h := 0x20 } 0x0000 [0x35]) 0x2000 [0x01])
    (fun t => t.memRead 0x2000 == 0x00 && t.f == 0x46) = true := by decide

theorem test_inx_wraps : nextSatisfies
    (put { State.reset with b := 0xFF, c := 0xFF, f := 0xD7 } 0x0000 [0x03])
    (fun t => t.b == 0x00 && t.c == 0x00 && t.f == 0xD7) = true := by decide

theorem test_inx_sp_from_sentinel : nextSatisfies
    (put State.reset 0x0000 [0x33])
    (fun t => t.sp == 0x00001) = true := by decide

theorem test_inx_sp_to_sentinel : nextSatisfies
    (put { State.reset with sp := 0x0FFFF } 0x0000 [0x33])
    (fun t => t.sp == 0x10000) = true := by decide

theorem test_dcx_wraps : nextSatisfies
    (put State.reset 0x0000 [0x1B])
    (fun t => t.d == 0xFF && t.e == 0xFF && t.f == 0x02) = true := by decide

theorem test_dcx_sp_from_zero : nextSatisfies
    (put { State.reset with sp := 0x00000 } 0x0000 [0x3B])
    (fun t => t.sp == 0x0FFFF) = true := by decide

theorem test_dad : nextSatisfies
    (put { State.reset with h := 0xA1, l := 0x7B, b := 0x33, c := 0x9F } 0x0000 [0x09])
    (fun t => t.h == 0xD5 && t.l == 0x1A && t.f == 0x02) = true := by decide

theorem test_dad_h_keeps_other_flags : nextSatisfies
    (put { State.reset with h := 0x80, f := 0xD6 } 0x0000 [0x29])
    (fun t => t.h == 0x00 && t.l == 0x00 && t.f == 0xD7) = true := by decide

theorem test_dad_sentinel : nextSatisfies
    (put { State.reset with h := 0x12, l := 0x34, f := 0x03 } 0x0000 [0x39])
    (fun t => t.h == 0x12 && t.l == 0x34 && t.f == 0x02 && t.sp == 0x10000) = true := by decide

/-! ### Logic, rotates, decimal adjust, carry (95_test_vectors.md sections 1 and 3) -/

theorem test_ana : nextSatisfies
    (put { State.reset with a := 0xFC, b := 0x0F, f := 0x13 } 0x0000 [0xA0])
    (fun t => t.a == 0x0C && t.f == 0x06) = true := by decide

theorem test_ani : nextSatisfies
    (put { State.reset with a := 0x3A, f := 0x03 } 0x0000 [0xE6, 0x0F])
    (fun t => t.a == 0x0A && t.f == 0x06) = true := by decide

theorem test_xra : nextSatisfies
    (put { State.reset with a := 0x5C, f := 0x93 } 0x0000 [0xAF])
    (fun t => t.a == 0x00 && t.f == 0x46) = true := by decide

theorem test_xri : nextSatisfies
    (put { State.reset with a := 0x3B } 0x0000 [0xEE, 0x81])
    (fun t => t.a == 0xBA && t.f == 0x82) = true := by decide

theorem test_ora : nextSatisfies
    (put { State.reset with a := 0x33, c := 0x0F, f := 0x13 } 0x0000 [0xB1])
    (fun t => t.a == 0x3F && t.f == 0x06) = true := by decide

theorem test_ori : nextSatisfies
    (put { State.reset with a := 0xB5 } 0x0000 [0xF6, 0x0F])
    (fun t => t.a == 0xBF && t.f == 0x82) = true := by decide

theorem test_rlc : nextSatisfies
    (put { State.reset with a := 0xF2 } 0x0000 [0x07])
    (fun t => t.a == 0xE5 && t.f == 0x03) = true := by decide

theorem test_rrc : nextSatisfies
    (put { State.reset with a := 0xF2, f := 0x03 } 0x0000 [0x0F])
    (fun t => t.a == 0x79 && t.f == 0x02) = true := by decide

theorem test_ral : nextSatisfies
    (put { State.reset with a := 0x03, f := 0x03 } 0x0000 [0x17])
    (fun t => t.a == 0x07 && t.f == 0x02) = true := by decide

theorem test_rar : nextSatisfies
    (put { State.reset with a := 0x01 } 0x0000 [0x1F])
    (fun t => t.a == 0x00 && t.f == 0x03) = true := by decide

theorem test_daa_both_nibbles : nextSatisfies
    (put { State.reset with a := 0x9B } 0x0000 [0x27])
    (fun t => t.a == 0x01 && t.f == 0x13) = true := by decide

theorem test_daa_low_carry_dropped : nextSatisfies
    (put { State.reset with a := 0xFA } 0x0000 [0x27])
    (fun t => t.a == 0x00 && t.f == 0x12) = true := by decide

theorem test_cma : nextSatisfies
    (put { State.reset with a := 0x51, f := 0xD7 } 0x0000 [0x2F])
    (fun t => t.a == 0xAE && t.f == 0xD7) = true := by decide

theorem test_stc : nextSatisfies
    (put State.reset 0x0000 [0x37])
    (fun t => t.f == 0x03) = true := by decide

theorem test_cmc_clears : nextSatisfies
    (put { State.reset with f := 0x03 } 0x0000 [0x3F])
    (fun t => t.f == 0x02) = true := by decide

theorem test_cmc_sets : nextSatisfies
    (put { State.reset with f := 0xD6 } 0x0000 [0x3F])
    (fun t => t.f == 0xD7) = true := by decide

/-! ### Data transfer (95_test_vectors.md section 4) -/

theorem test_mov_a_e : nextSatisfies
    (put { State.reset with e := 0x7B } 0x0000 [0x7B])
    (fun t => t.a == 0x7B && t.e == 0x7B && t.pc == 0x0001 && t.cyc == 5) = true := by decide

theorem test_mov_h_m_address_is_old_hl : nextSatisfies
    (put (put { State.reset with h := 0x20 } 0x0000 [0x66]) 0x2000 [0x5A])
    (fun t => t.h == 0x5A && t.l == 0x00) = true := by decide

theorem test_mov_m_h : nextSatisfies
    (put { State.reset with h := 0x24 } 0x0000 [0x74])
    (fun t => t.memRead 0x2400 == 0x24) = true := by decide

theorem test_mvi_register : nextSatisfies
    (put State.reset 0x0000 [0x0E, 0x12])
    (fun t => t.c == 0x12 && t.pc == 0x0002 && t.cyc == 7) = true := by decide

theorem test_mvi_memory : nextSatisfies
    (put { State.reset with h := 0x20 } 0x0000 [0x36, 0x99])
    (fun t => t.memRead 0x2000 == 0x99 && t.pc == 0x0002 && t.cyc == 10) = true := by decide

theorem test_lxi : nextSatisfies
    (put State.reset 0x0000 [0x01, 0x34, 0x12])
    (fun t => t.b == 0x12 && t.c == 0x34 && t.pc == 0x0003) = true := by decide

theorem test_lxi_sp_zero_is_not_the_sentinel : nextSatisfies
    (put State.reset 0x0000 [0x31, 0x00, 0x00])
    (fun t => t.sp == 0x00000) = true := by decide

theorem test_ldax : nextSatisfies
    (put (put { State.reset with d := 0x93, e := 0x8B } 0x0000 [0x1A]) 0x938B [0x42])
    (fun t => t.a == 0x42) = true := by decide

theorem test_stax : nextSatisfies
    (put { State.reset with b := 0x3F, c := 0x16, a := 0x77 } 0x0000 [0x02])
    (fun t => t.memRead 0x3F16 == 0x77) = true := by decide

theorem test_lda : nextSatisfies
    (put (put State.reset 0x0000 [0x3A, 0x00, 0x03]) 0x0300 [0x2C])
    (fun t => t.a == 0x2C && t.pc == 0x0003 && t.cyc == 13) = true := by decide

theorem test_sta : nextSatisfies
    (put { State.reset with a := 0x2C } 0x0000 [0x32, 0xB3, 0x05])
    (fun t => t.memRead 0x05B3 == 0x2C && t.pc == 0x0003) = true := by decide

theorem test_lhld_across_the_top : nextSatisfies
    (put (put (put { State.reset with pc := 0x0100 } 0x0100 [0x2A, 0xFF, 0xFF]) 0xFFFF [0x11])
      0x0000 [0x22])
    (fun t => t.h == 0x22 && t.l == 0x11 && t.pc == 0x0103) = true := by decide

theorem test_shld_across_the_top : nextSatisfies
    (put { State.reset with pc := 0x0100, h := 0xAE, l := 0x29 } 0x0100 [0x22, 0xFF, 0xFF])
    (fun t => t.memRead 0xFFFF == 0x29 && t.memRead 0x0000 == 0xAE) = true := by decide

theorem test_xchg : nextSatisfies
    (put { State.reset with d := 0x33, e := 0x55, h := 0x00, l := 0xFF } 0x0000 [0xEB])
    (fun t => t.d == 0x00 && t.e == 0xFF && t.h == 0x33 && t.l == 0x55) = true := by decide

/-! ### Stack (95_test_vectors.md section 5) -/

theorem test_push_from_sentinel : nextSatisfies
    (put { State.reset with b := 0x12, c := 0x34 } 0x0000 [0xC5])
    (fun t => t.sp == 0x0FFFE && t.memRead 0xFFFF == 0x12 && t.memRead 0xFFFE == 0x34) = true := by decide

theorem test_push_wraps : nextSatisfies
    (put { State.reset with h := 0xAB, l := 0xCD, sp := 0x00001 } 0x0000 [0xE5])
    (fun t => t.sp == 0x0FFFF && t.memRead 0x0000 == 0xAB && t.memRead 0xFFFF == 0xCD) = true := by decide

theorem test_push_psw : nextSatisfies
    (put { State.reset with a := 0x1F, f := 0x47, sp := 0x0502A } 0x0000 [0xF5])
    (fun t => t.sp == 0x05028 && t.memRead 0x5029 == 0x1F && t.memRead 0x5028 == 0x47) = true := by decide

theorem test_pop_to_sentinel : nextSatisfies
    (put (put { State.reset with sp := 0x0FFFE } 0x0000 [0xC1]) 0xFFFE [0x34, 0x12])
    (fun t => t.b == 0x12 && t.c == 0x34 && t.sp == 0x10000) = true := by decide

theorem test_pop_from_sentinel : nextSatisfies
    (put (put { State.reset with pc := 0x0100 } 0x0100 [0xC1]) 0x0000 [0x34, 0x12])
    (fun t => t.b == 0x12 && t.c == 0x34 && t.sp == 0x00002) = true := by decide

theorem test_pop_psw_masks : nextSatisfies
    (put (put { State.reset with sp := 0x02C00 } 0x0000 [0xF1]) 0x2C00 [0xFF, 0x00])
    (fun t => t.a == 0x00 && t.f == 0xD7) = true := by decide

theorem test_pop_psw_sets_bit_1 : nextSatisfies
    (put (put { State.reset with sp := 0x02C00 } 0x0000 [0xF1]) 0x2C00 [0x28, 0x55])
    (fun t => t.a == 0x55 && t.f == 0x02) = true := by decide

theorem test_xthl : nextSatisfies
    (put (put { State.reset with sp := 0x010AD, h := 0x0B, l := 0x3C } 0x0000 [0xE3]) 0x10AD [0xF0, 0x0D])
    (fun t => t.h == 0x0D && t.l == 0xF0 && t.memRead 0x10AD == 0x3C && t.memRead 0x10AE == 0x0B && t.sp == 0x010AD)
      = true := by decide

theorem test_sphl : nextSatisfies
    (put { State.reset with h := 0x50, l := 0x6C } 0x0000 [0xF9])
    (fun t => t.sp == 0x0506C) = true := by decide

/-! ### Control transfer (95_test_vectors.md section 6) -/

theorem test_jmp : nextSatisfies
    (put State.reset 0x0000 [0xC3, 0x00, 0x3E])
    (fun t => t.pc == 0x3E00 && t.cyc == 10) = true := by decide

theorem test_jnz_taken : nextSatisfies
    (put { State.reset with f := 0x86 } 0x0000 [0xC2, 0x00, 0x20])
    (fun t => t.pc == 0x2000) = true := by decide

theorem test_jnz_not_taken : nextSatisfies
    (put { State.reset with f := 0x43 } 0x0000 [0xC2, 0x00, 0x20])
    (fun t => t.pc == 0x0003) = true := by decide

theorem test_jz_taken : nextSatisfies
    (put { State.reset with f := 0x43 } 0x0000 [0xCA, 0x00, 0x20])
    (fun t => t.pc == 0x2000) = true := by decide

theorem test_jz_not_taken : nextSatisfies
    (put { State.reset with f := 0x86 } 0x0000 [0xCA, 0x00, 0x20])
    (fun t => t.pc == 0x0003) = true := by decide

theorem test_jnc_taken : nextSatisfies
    (put { State.reset with f := 0x86 } 0x0000 [0xD2, 0x00, 0x20])
    (fun t => t.pc == 0x2000) = true := by decide

theorem test_jnc_not_taken : nextSatisfies
    (put { State.reset with f := 0x43 } 0x0000 [0xD2, 0x00, 0x20])
    (fun t => t.pc == 0x0003) = true := by decide

theorem test_jc_taken : nextSatisfies
    (put { State.reset with f := 0x43 } 0x0000 [0xDA, 0x00, 0x20])
    (fun t => t.pc == 0x2000) = true := by decide

theorem test_jc_not_taken : nextSatisfies
    (put { State.reset with f := 0x86 } 0x0000 [0xDA, 0x00, 0x20])
    (fun t => t.pc == 0x0003) = true := by decide

theorem test_jpo_taken : nextSatisfies
    (put { State.reset with f := 0x43 } 0x0000 [0xE2, 0x00, 0x20])
    (fun t => t.pc == 0x2000) = true := by decide

theorem test_jpo_not_taken : nextSatisfies
    (put { State.reset with f := 0x86 } 0x0000 [0xE2, 0x00, 0x20])
    (fun t => t.pc == 0x0003) = true := by decide

theorem test_jpe_taken : nextSatisfies
    (put { State.reset with f := 0x86 } 0x0000 [0xEA, 0x00, 0x20])
    (fun t => t.pc == 0x2000) = true := by decide

theorem test_jpe_not_taken : nextSatisfies
    (put { State.reset with f := 0x43 } 0x0000 [0xEA, 0x00, 0x20])
    (fun t => t.pc == 0x0003) = true := by decide

theorem test_jp_taken : nextSatisfies
    (put { State.reset with f := 0x43 } 0x0000 [0xF2, 0x00, 0x20])
    (fun t => t.pc == 0x2000) = true := by decide

theorem test_jp_not_taken : nextSatisfies
    (put { State.reset with f := 0x86 } 0x0000 [0xF2, 0x00, 0x20])
    (fun t => t.pc == 0x0003) = true := by decide

theorem test_jm_taken : nextSatisfies
    (put { State.reset with f := 0x86 } 0x0000 [0xFA, 0x00, 0x20])
    (fun t => t.pc == 0x2000) = true := by decide

theorem test_jm_not_taken : nextSatisfies
    (put { State.reset with f := 0x43 } 0x0000 [0xFA, 0x00, 0x20])
    (fun t => t.pc == 0x0003) = true := by decide

theorem test_call : nextSatisfies
    (put { State.reset with pc := 0x1000, sp := 0x02400 } 0x1000 [0xCD, 0x34, 0x12])
    (fun t => t.pc == 0x1234 && t.sp == 0x023FE && t.memRead 0x23FF == 0x10 && t.memRead 0x23FE == 0x03) = true :=
      by decide

theorem test_cnz_taken : nextSatisfies
    (put { State.reset with pc := 0x1000, sp := 0x02400 } 0x1000 [0xC4, 0x00, 0x20])
    (fun t => t.pc == 0x2000 && t.sp == 0x023FE && t.memRead 0x23FE == 0x03 && t.cyc == 17) = true := by decide

theorem test_cnz_not_taken : nextSatisfies
    (put { State.reset with pc := 0x1000, sp := 0x02400, f := 0x42 } 0x1000 [0xC4, 0x00, 0x20])
    (fun t => t.pc == 0x1003 && t.sp == 0x02400 && t.cyc == 11) = true := by decide

theorem test_ret_to_sentinel : nextSatisfies
    (put (put { State.reset with pc := 0x2000, sp := 0x0FFFE } 0x2000 [0xC9]) 0xFFFE [0x03, 0x00])
    (fun t => t.pc == 0x0003 && t.sp == 0x10000) = true := by decide

theorem test_rc_taken : nextSatisfies
    (put (put { State.reset with pc := 0x1234, sp := 0x023FE, f := 0x03 } 0x1234 [0xD8]) 0x23FE [0x03,
      0x10])
    (fun t => t.pc == 0x1003 && t.sp == 0x02400 && t.cyc == 11) = true := by decide

theorem test_rc_not_taken : nextSatisfies
    (put (put { State.reset with pc := 0x1234, sp := 0x023FE } 0x1234 [0xD8]) 0x23FE [0x03, 0x10])
    (fun t => t.pc == 0x1235 && t.sp == 0x023FE && t.cyc == 5) = true := by decide

theorem test_rst_3 : nextSatisfies
    (put { State.reset with pc := 0x1234, sp := 0x02400 } 0x1234 [0xDF])
    (fun t => t.pc == 0x0018 && t.sp == 0x023FE && t.memRead 0x23FF == 0x12 && t.memRead 0x23FE == 0x35) = true :=
      by decide

theorem test_rst_7_at_the_top : nextSatisfies
    (put { State.reset with pc := 0xFFFF, sp := 0x02400 } 0xFFFF [0xFF])
    (fun t => t.pc == 0x0038 && t.memRead 0x23FF == 0x00 && t.memRead 0x23FE == 0x00) = true := by decide

theorem test_pchl : nextSatisfies
    (put { State.reset with h := 0x41, l := 0x3E } 0x0000 [0xE9])
    (fun t => t.pc == 0x413E && t.sp == 0x10000) = true := by decide

/-! ### Machine control, ports and faults (95_test_vectors.md section 7) -/

theorem test_nop_at_the_top : nextSatisfies
    (put { State.reset with pc := 0xFFFF } 0xFFFF [0x00])
    (fun t => t.pc == 0x0000 && t.cyc == 4) = true := by decide

theorem test_hlt : nextSatisfies
    (put State.reset 0x0000 [0x76])
    (fun t => t.pc == 0x0001 && t.halted && !t.stopped && t.cyc == 7) = true := by decide

theorem test_quit : nextSatisfies
    (put State.reset 0x0000 [0x08])
    (fun t => t.pc == 0x0001 && !t.halted && t.stopped && t.cyc == 0) = true := by decide

theorem test_ei : nextSatisfies
    (put State.reset 0x0000 [0xFB])
    (fun t => t.ie && t.pc == 0x0001 && t.cyc == 4) = true := by decide

theorem test_di : nextSatisfies
    (put { State.reset with ie := true } 0x0000 [0xF3])
    (fun t => !t.ie && t.pc == 0x0001) = true := by decide

theorem test_out : nextSatisfies
    (put { State.reset with a := 0x77, portHandler := some 3 } 0x0000 [0xD3, 0x05])
    (fun t => t.portLog == [.write 0x05 0x77] && t.a == 0x77 && t.pc == 0x0002 && t.cyc == 10) = true := by decide

theorem test_out_without_handler : nextSatisfies
    (put { State.reset with a := 0x77 } 0x0000 [0xD3, 0x05])
    (fun t => t.fault == some .missingPortHandler && t.pc == 0x0000 && t.a == 0x77 && t.cyc == 0) = true := by decide

theorem test_in_without_handler : nextSatisfies
    (put { State.reset with a := 0x77 } 0x0000 [0xDB, 0x05])
    (fun t => t.fault == some .missingPortHandler && t.pc == 0x0000 && t.a == 0x77 && t.cyc == 0) = true := by decide

theorem test_unrecognised_byte : nextSatisfies
    (put { State.reset with pc := 0x0123, a := 0x77 } 0x0123 [0xED])
    (fun t => t.fault == some (.unrecognizedOpcode 0xED) && t.pc == 0x0123 && t.a == 0x77 && t.cyc == 0) = true :=
      by decide

/-- `IN` with a handler attached: the accumulator is the handler's answer, whatever that is (R182). -/
theorem test_in : step (put { State.reset with portHandler := some 3 } 0x0000 [0xDB, 0x01])
    = .next { put { State.reset with portHandler := some 3 } 0x0000 [0xDB, 0x01] with
        a := Config.portIn 3 [] 0x01, pc := 0x0002, cyc := 10, portLog := [.read 0x01 (Config.portIn 3 [] 0x01)] } := rfl

theorem test_halted_step_changes_nothing : nextSatisfies { State.reset with halted := true, pc := 0x0001 }
    (fun t => t == { State.reset with halted := true, pc := 0x0001 }) = true := by decide

theorem test_stopped_step_changes_nothing : nextSatisfies { State.reset with stopped := true }
    (fun t => t == { State.reset with stopped := true }) = true := by decide

theorem test_no_step_after_a_fault :
    (step { State.reset with fault := some .missingPortHandler } matches .fault .missingPortHandler) = true := by decide

/-! ### Interrupts (95_test_vectors.md section 8) -/

/-- Scenario I1, the acceptance. -/
theorem test_interrupt_accepted : isNext (intReq 0xC7 { State.reset with ie := true, pc := 0x1234 })
    (fun t => t.pc == 0x1234 && t.sp == 0x0FFFE && t.memRead 0xFFFF == 0x12 && t.memRead 0xFFFE == 0x34 && !t.ie
      && t.latch == some 0x0000 && t.cyc == 0) = true := by decide

/-- Scenario I1, the service. -/
theorem test_interrupt_serviced : nextSatisfies { State.reset with pc := 0x1234, sp := 0x0FFFE, latch := some 0x0000 }
    (fun t => t.pc == 0x0000 && t.sp == 0x0FFFE && t.latch == none && t.cyc == 11) = true := by decide

/-- Scenario I2: a masked request changes nothing. -/
theorem test_interrupt_masked : isNext (intReq 0xCF { State.reset with pc := 0x1234 })
    (fun t => t == { State.reset with pc := 0x1234 }) = true := by decide

/-- Scenario I3: the target of every vector. -/
theorem test_interrupt_vectors : [(0xC7, 0x0000), (0xCF, 0x0008), (0xD7, 0x0010), (0xDF, 0x0018), (0xE7, 0x0020),
    (0xEF, 0x0028), (0xF7, 0x0030), (0xFF, 0x0038)].all (fun (r : Byte × Word) =>
      isNext (intReq r.1 { State.reset with ie := true }) (fun t => t.latch == some r.2)) = true := by decide

/-- Scenario I3: a byte that is no `RST`. -/
theorem test_interrupt_vector_refused :
    (intReq 0x00 { State.reset with ie := true } matches .refused (.notRstVector 0x00)) = true := by decide

/-- Program P4: an accepted request leaves the halt, with `PC` past the `HLT`. -/
theorem test_interrupt_leaves_halt : isNext (intReq 0xCF { State.reset with ie := true, halted := true, pc := 0x0012 })
    (fun t => !t.halted && t.latch == some 0x0008 && t.memRead 0xFFFE == 0x12) = true := by decide

/-! ### The host's loading and running (95_test_vectors.md programs P10 and 70_reset_and_hazards.md) -/

theorem test_load : isNext (hostMove (.load [0x3C, 0x3D]) { State.reset with a := 0x77, pc := 0x1234, sp := 0x00002 })
    (fun t => t.memRead 0x0000 == 0x3C && t.memRead 0x0001 == 0x3D && t.pc == 0x0000 && t.imageLen == 2 && t.a == 0x77
      && t.sp == 0x00002) = true := by decide

/-- Program P10 (b): the loop ends where `PC` leaves the image. -/
theorem test_run_ends_at_the_image_length : (match runMode 2 (put { State.reset with imageLen := 4 } 0
      [0xC3, 0x00, 0x20, 0x3C]) with
    | .ended t => t.pc == 0x2000 && t.a == 0x00 && t.cyc == 10
    | .unfinished _ => false) = true := by decide

/-- A stored word of the opcode table is the next instruction that runs. -/
theorem test_withFetchWord : nextSatisfies (State.reset.withFetchWord 24 0x123421)
    (fun t => t.h == 0x12 && t.l == 0x34 && t.pc == 0x0003) = true := by decide

/-- With `IE_RESET` 1 the host's `Reset` enables interrupts. -/
theorem test_reset_with_interrupts_enabled :
    isNext (hostMoveWith { workingParameters with ieReset := true } .reset { State.reset with halted := true, a := 1 })
      (fun t => t == State.resetWith true && t.ie) = true := by decide

/-- An invocation cut by the number of steps has not returned: `JMP 0` inside the image (R238). -/
theorem test_invoke_unfinished : (match invoke false 2 (put { State.reset with imageLen := 3 } 0 [0xC3, 0x00, 0x00]) with
    | .returned _ => false
    | .unfinished t => t.pc == 0x0000 && t.cyc == 20) = true := by decide

theorem test_reset_cycles : isNext (hostMove .resetCycles { State.reset with cyc := 7, a := 1 })
    (fun t => t == { State.reset with a := 1 }) = true := by decide

/-! ### Cases that meet the hypotheses of the statements -/

theorem witness_DecodeOfEncode : quitLegal 0x08 = true ∧ (Instr.jmp 0xFFFF).wellFormedFor 0x08 = true
    ∧ (Instr.unrecognized 0xFD).wellFormedFor 0x08 = true := by decide

theorem witness_EncodeOfDecode : quitLegal 0xFD = true
    ∧ (decodeBytes 0xFD [0xC3, 0xFF, 0xFF, 0x00] matches .ok (.jmp 0xFFFF, [0x00])) = true := by decide

theorem witness_UnrecognisedBytesAreTheFreeOnes : quitLegal 0xFD = true ∧ (0x08 : Byte) ∈ unrecognisedBytes 0xFD
    ∧ (0xFD : Byte) ∉ unrecognisedBytes 0xFD := by decide

/-- One byte of each length, at the edges of the lists, and an unrecognised one. -/
theorem witness_LengthByOpcode : quitLegal 0x08 = true
    ∧ [(0x31 : Byte), 0xFA, 0xFC, 0xCD, 0x3E, 0xFE, 0xDB, 0x08].all (fun op => op ∉ unrecognisedBytes 0x08) = true
    ∧ (0x10 : Byte) ∈ unrecognisedBytes 0x08 ∧ (0xFD : Byte) ∈ unrecognisedBytes 0x08 ∧ (entryOf 0x08 0x31).length = 3 ∧ (entryOf 0x08 0xFA).length = 3
    ∧ (entryOf 0x08 0xFC).length = 3 ∧ (entryOf 0x08 0xCD).length = 3 ∧ (entryOf 0x08 0x3E).length = 2
    ∧ (entryOf 0x08 0xFE).length = 2 ∧ (entryOf 0x08 0xDB).length = 2 ∧ (entryOf 0x08 0x08).length = 1
    ∧ (Instr.cpi 0xFF).wellFormedFor 0x08 = true := by decide

/-- A state with a latched interrupt that meets the invariant, and has a step. -/
def latchedState : State := { State.reset with mem := [(0xFFFE, 0x12)], sp := 0xFFFE, latch := some 0x0038 }

theorem latchedState_inv : latchedState.Inv :=
  ⟨by decide, by decide, fun t h => by cases h; decide, by decide⟩

theorem witness_StepKeepsInvariant : latchedState.Inv ∧ ∃ t, stepWith workingParameters latchedState = .next t :=
  ⟨latchedState_inv, _, rfl⟩

theorem witness_HostMovesKeepInvariant : latchedState.Inv
    ∧ ∃ t, hostMoveWith workingParameters (.load [0x00, 0xFF]) latchedState = .next t := ⟨latchedState_inv, _, rfl⟩

theorem witness_MemoryCellHoldsLastWrite : (0x0000 : Word) ≠ 0xFFFF := by decide

theorem reset_running : State.reset.Running := ⟨rfl, rfl, rfl, rfl⟩

theorem witness_StepRunsDecodedInstruction : State.reset.Running ∧ decodeBytes workingParameters.quitOpcode
    [State.reset.memRead State.reset.pc, State.reset.memRead (State.reset.pc + 1),
      State.reset.memRead (State.reset.pc + 2)] = .ok (.nop, [0x00, 0x00])
    ∧ ∃ t, exec .nop State.reset = .next t := ⟨reset_running, rfl, _, rfl⟩

/-- One state for each of the four tests. -/
theorem witness_TestsBeforeFetch :
    ({ State.reset with fault := some .missingPortHandler } : State).fault = some .missingPortHandler
    ∧ (({ State.reset with stopped := true } : State).fault = none
      ∧ ({ State.reset with stopped := true } : State).stopped = true)
    ∧ (({ State.reset with halted := true } : State).fault = none
      ∧ ({ State.reset with halted := true } : State).stopped = false
      ∧ ({ State.reset with halted := true } : State).halted = true)
    ∧ latchedState.fault = none ∧ latchedState.stopped = false ∧ latchedState.halted = false
    ∧ latchedState.latch = some 0x0038 := by decide

/-- Interrupts enabled, at both ends of the stack pointer's range. -/
theorem witness_InterruptAcceptance : ({ State.reset with ie := true } : State).ie = true
    ∧ ({ State.reset with ie := true, sp := 0 } : State).ie = true := by decide

theorem witness_MaskedRequestIsLost : State.reset.ie = false ∧ (0xFF : Byte) &&& 0xC7 = 0xC7 := by decide

theorem witness_NonRstVectorIsRefused : ∀ n : Fin 8, (0xC6 : Byte) ≠ BitVec.ofNat 8 (0xC7 + 8 * n.val) := by decide

theorem witness_SecondRequestChangesNothing : ({ State.reset with ie := true } : State).ie = true
    ∧ (∃ t, intReq 0xC7 { State.reset with ie := true } = .next t) ∧ (0xD7 : Byte) &&& 0xC7 = 0xC7 :=
  ⟨rfl, ⟨_, rfl⟩, by decide⟩

theorem witness_InterruptedProgramResumes : ({ State.reset with ie := true, sp := 0 } : State).Running
    ∧ ({ State.reset with ie := true, sp := 0 } : State).ie = true ∧ (0xFF : Byte) &&& 0xC7 = 0xC7 :=
  ⟨⟨rfl, rfl, rfl, rfl⟩, rfl, by decide⟩

theorem witness_HaltedWithInterruptsDisabled : State.reset.ie = false ∧ ({ State.reset with halted := true } : State).fault = none
    ∧ ({ State.reset with halted := true } : State).halted = true
    ∧ ({ State.reset with halted := true } : State).ie = false ∧ (0xC7 : Byte) &&& 0xC7 = 0xC7
    ∧ HostMove.detachHandler ≠ HostMove.reset
    ∧ ∃ t, hostMove .detachHandler { State.reset with halted := true } = .next t :=
  ⟨rfl, rfl, rfl, rfl, by decide, by decide, _, rfl⟩

/-- The first and the last of the eleven bytes. -/
theorem witness_UnrecognisedByteFaults :
    ((put State.reset 0 [0x10]).Running ∧ (put State.reset 0 [0x10]).memRead (put State.reset 0 [0x10]).pc
      ∈ [(0x10 : Byte), 0x18, 0x20, 0x28, 0x30, 0x38, 0xCB, 0xD9, 0xDD, 0xED, 0xFD])
    ∧ (put State.reset 0 [0xFD]).Running ∧ (put State.reset 0 [0xFD]).memRead (put State.reset 0 [0xFD]).pc
      ∈ [(0x10 : Byte), 0x18, 0x20, 0x28, 0x30, 0x38, 0xCB, 0xD9, 0xDD, 0xED, 0xFD] :=
  ⟨⟨⟨rfl, rfl, rfl, rfl⟩, by decide⟩, ⟨rfl, rfl, rfl, rfl⟩, by decide⟩

/-- `IN` and `OUT`, no handler attached. -/
theorem witness_MissingHandlerFaults :
    ((put State.reset 0 [0xDB]).Running ∧ (put State.reset 0 [0xDB]).portHandler = none
      ∧ decodeBytes workingParameters.quitOpcode [0xDB, 0x00, 0x00] = .ok (.inp 0x00, [0x00])
      ∧ (put State.reset 0 [0xDB]).memRead 0x0000 = 0xDB ∧ (put State.reset 0 [0xDB]).memRead 0x0001 = 0x00
      ∧ (put State.reset 0 [0xDB]).memRead 0x0002 = 0x00)
    ∧ (put State.reset 0 [0xD3]).Running ∧ (put State.reset 0 [0xD3]).portHandler = none
      ∧ decodeBytes workingParameters.quitOpcode [0xD3, 0x00, 0x00] = .ok (.out 0x00, [0x00])
      ∧ (put State.reset 0 [0xD3]).memRead 0x0000 = 0xD3 ∧ (put State.reset 0 [0xD3]).memRead 0x0001 = 0x00
      ∧ (put State.reset 0 [0xD3]).memRead 0x0002 = 0x00 :=
  ⟨⟨⟨rfl, rfl, rfl, rfl⟩, rfl, rfl, by decide, by decide, by decide⟩, ⟨rfl, rfl, rfl, rfl⟩, rfl, rfl, by decide,
    by decide, by decide⟩

theorem witness_FaultChangesNothingElse : (put State.reset 0 [0xED]).fault = none
    ∧ nextSatisfies (put State.reset 0 [0xED]) (fun t => t.fault != none) = true := by decide

/-- Each of the two faults is latched by some step. -/
theorem witness_FaultListIsClosed : (put State.reset 0 [0xED]).fault = none
    ∧ nextSatisfies (put State.reset 0 [0xED]) (fun t => t.fault == some (.unrecognizedOpcode 0xED)) = true
    ∧ nextSatisfies (put State.reset 0 [0xDB]) (fun t => t.fault == some .missingPortHandler) = true := by decide

theorem witness_FaultIsFatal :
    ({ State.reset with fault := some .missingPortHandler } : State).fault = some .missingPortHandler
    ∧ HostMove.readCycles ≠ HostMove.reset
    ∧ ∃ t, hostMove .readCycles { State.reset with fault := some .missingPortHandler } = .next t :=
  ⟨rfl, by decide, _, rfl⟩

/-- The condition taken and not taken, for a call and a return. -/
theorem witness_CallInstructions : condHolds .z 0x42 = true ∧ condHolds .z 0x02 = false := by decide

theorem witness_ReturnInstructions : condHolds .m 0x82 = true ∧ condHolds .m 0x02 = false := by decide

/-- A handler attached, and none. -/
theorem witness_PortInstructions : ({ State.reset with portHandler := some 0 } : State).portHandler = some 0
    ∧ State.reset.portHandler = none := by decide

/-- A step for each clause: `EI`, `DI`, `HLT`, `QUIT`, `OUT`. -/
theorem witness_WhoTouchesControlState : nextSatisfies (put State.reset 0 [0xFB]) (fun t => t.ie) = true
    ∧ nextSatisfies (put { State.reset with ie := true } 0 [0xF3]) (fun t => !t.ie) = true
    ∧ nextSatisfies (put State.reset 0 [0x76]) (fun t => t.halted) = true
    ∧ nextSatisfies (put State.reset 0 [0x08]) (fun t => t.stopped) = true
    ∧ nextSatisfies (put { State.reset with portHandler := some 0 } 0 [0xD3]) (fun t => t.portLog != []) = true := by decide

theorem witness_CyclesAreInformational : workingParameters.quitOpcode
      = ({ workingParameters with intCost := 0, cycles := fun _ => (0, 0) } : Parameters).quitOpcode
    ∧ SameButCycles State.reset { State.reset with cyc := 5 } := ⟨rfl, rfl⟩

/-- The longest image that is loaded, and the shortest that is refused. -/
theorem witness_LoadProgram : (List.replicate 65536 (0x01 : Byte)).length ≤ 65536
    ∧ 65536 < (List.replicate 65537 (0x01 : Byte)).length := by
  rw [List.length_replicate, List.length_replicate]
  omega

/-- An image of one byte: with one step allowed the run ends, with none it is unfinished. -/
theorem witness_RunModeIsTheLoop :
    (∃ t, runModeWith workingParameters 1 (put { State.reset with imageLen := 1 } 0 [0x3C]) = .ended t)
    ∧ ∃ t, runModeWith workingParameters 0 (put { State.reset with imageLen := 1 } 0 [0x3C]) = .unfinished t :=
  ⟨⟨_, rfl⟩, _, rfl⟩

/-- The loop comes to `PC` 1 in one step, its test holding at 0 and failing at 1, the image length. -/
theorem witness_RunModeIsTheLoop_reached :
    (∃ t, LoopReaches workingParameters 1 (put { State.reset with imageLen := 1 } 0 [0x3C]) t ∧ ¬LoopTest t)
    ∧ LoopReaches workingParameters 0 (put { State.reset with imageLen := 1 } 0 [0x3C])
        (put { State.reset with imageLen := 1 } 0 [0x3C])
    ∧ LoopTest (put { State.reset with imageLen := 1 } 0 [0x3C]) :=
  ⟨⟨_, ⟨rfl, fun m hm => ⟨_, (by obtain rfl : m = 0 := by omega
                                 rfl), rfl, rfl, rfl, by decide⟩⟩, by
      rintro ⟨-, -, -, h⟩
      exact absurd h (by decide)⟩,
    ⟨rfl, fun m hm => absurd hm (by omega)⟩, rfl, rfl, rfl, by decide⟩

end Sys2Proof.Tests
end

/-! ### The cycle counter is informational (R23, R246)

Every meaning commutes with putting another value into `CYC`; so does a step up to the cost it charges, and a state
equal to another but for `CYC` is that other state with another value put in. -/

namespace Sys2Proof.Machine

/-- The state with another value in the cycle counter. -/
def State.withCyc (s : State) (n : Nat) : State := { s with cyc := n }

/-- The outcome with another value in the cycle counter of its next state, if it has one. -/
def outWithCyc (n : Nat) : Out → Out
  | .next s => .next (s.withCyc n)
  | .fault r => .fault r
  | .refused r => .refused r

@[simp] theorem State.withCyc_portHandler (s : State) (n : Nat) : (s.withCyc n).portHandler = s.portHandler := rfl

@[simp] theorem State.fetch_withCyc (s : State) (n : Nat) (quit : Byte) :
    (s.withCyc n).fetch quit = s.fetch quit := rfl

/-- States equal but for the counter differ by one `withCyc`. -/
theorem SameButCycles.eq_withCyc {s t : State} (h : SameButCycles s t) : t = s.withCyc t.cyc :=
  (congrArg (State.withCyc · t.cyc) h).symm

theorem SameButCycles.withCyc (s : State) (n : Nat) : SameButCycles s (s.withCyc n) := rfl

/-! #### The meanings -/

theorem State.branchIf_withCyc (s t : State) (n : Nat) (cc : Cond) (length : Nat) :
    (s.withCyc n).branchIf cc length (t.withCyc n) = (s.branchIf cc length t).withCyc n :=
  (apply_ite (State.withCyc · n) (condHolds cc s.f = true) t (s.advance length)).symm

theorem execInp_withCyc (d8 : Byte) (s : State) (n : Nat) :
    execInp d8 (s.withCyc n) = outWithCyc n (execInp d8 s) := by
  cases h : s.portHandler <;> simp only [execInp, State.withCyc_portHandler, h] <;> rfl

theorem execOut_withCyc (d8 : Byte) (s : State) (n : Nat) :
    execOut d8 (s.withCyc n) = outWithCyc n (execOut d8 s) := by
  cases h : s.portHandler <;> simp only [execOut, State.withCyc_portHandler, h] <;> rfl

/-- No instruction reads or writes the counter. The port instructions branch on the handler and the conditional ones on
the flags; the meaning of every other instruction is one update of the state, in which `CYC` does not occur. -/
theorem exec_withCyc (i : Instr) (s : State) (n : Nat) : exec i (s.withCyc n) = outWithCyc n (exec i s) := by
  cases i
  case inp d8 => exact execInp_withCyc d8 s n
  case out d8 => exact execOut_withCyc d8 s n
  case jnz a16 | jz a16 | jnc a16 | jc a16 | jpo a16 | jpe a16 | jp a16 | jm a16 =>
    exact congrArg Host.Outcome.next (s.branchIf_withCyc { s with pc := a16 } n _ _)
  case cnz a16 | cz a16 | cnc a16 | cc a16 | cpo a16 | cpe a16 | cp a16 | cm a16 =>
    exact congrArg Host.Outcome.next (s.branchIf_withCyc (s.call (s.after 3) a16) n _ _)
  case rnz | rz | rnc | rc | rpo | rpe | rp | rm =>
    exact congrArg Host.Outcome.next (s.branchIf_withCyc s.ret n _ _)
  all_goals rfl

/-! #### The step, one equation for each of its tests (R200) -/

theorem stepWith_of_stopped (p : Parameters) {s : State} (hf : s.fault = none) (hs : s.stopped = true) :
    stepWith p s = .next s := by
  simp [stepWith, hf, hs]

theorem stepWith_of_halted (p : Parameters) {s : State} (hf : s.fault = none) (hh : s.halted = true) :
    stepWith p s = .next s := by
  simp [stepWith, hf, hh]

theorem stepWith_of_latched (p : Parameters) {s : State} {target : Word} (hf : s.fault = none)
    (hs : s.stopped = false) (hh : s.halted = false) (hl : s.latch = some target) :
    stepWith p s = .next (s.serviceInterrupt p.intCost target) := by
  simp [stepWith, hf, hs, hh, hl]

theorem stepWith_of_running (p : Parameters) {s : State} (h : s.Running) : stepWith p s = runInstr p s := by
  obtain ⟨hf, hs, hh, hl⟩ := h
  simp [stepWith, hf, hs, hh, hl]

/-- Charging costs keeps states equal but for the counter so, whatever the two costs. -/
theorem SameButCycles.charge (c d : Nat) (s : State) (n : Nat) :
    SameButCycles (charge c s) (charge d (s.withCyc n)) := by
  rw [charge_eq, charge_eq]
  rfl

theorem runInstr_withCyc {p q : Parameters} (hpq : p.quitOpcode = q.quitOpcode) (s : State) (n : Nat) :
    OutSameButCycles (runInstr p s) (runInstr q (s.withCyc n)) := by
  obtain ⟨t, ht, -⟩ := exec_effect (s.fetch q.quitOpcode) s
  have ht' : exec (s.fetch q.quitOpcode) (s.withCyc n) = .next (t.withCyc n) := by
    rw [exec_withCyc, ht, outWithCyc]
  simp only [runInstr, hpq, State.fetch_withCyc, ht, ht']
  exact .charge _ _ t n

theorem stepWith_withCyc {p q : Parameters} (hpq : p.quitOpcode = q.quitOpcode) (s : State) (n : Nat) :
    OutSameButCycles (stepWith p s) (stepWith q (s.withCyc n)) := by
  cases hf : s.fault with
  | some r =>
    rw [stepWith_fault p hf, stepWith_fault q (s := s.withCyc n) hf]
    rfl
  | none =>
    cases hs : s.stopped with
    | true =>
      rw [stepWith_of_stopped p hf hs, stepWith_of_stopped q (s := s.withCyc n) hf hs]
      exact .withCyc s n
    | false =>
      cases hh : s.halted with
      | true =>
        rw [stepWith_of_halted p hf hh, stepWith_of_halted q (s := s.withCyc n) hf hh]
        exact .withCyc s n
      | false =>
        cases hl : s.latch with
        | some target =>
          rw [stepWith_of_latched p hf hs hh hl, stepWith_of_latched q (s := s.withCyc n) hf hs hh hl]
          rfl
        | none =>
          rw [stepWith_of_running p ⟨hf, hs, hh, hl⟩, stepWith_of_running q (s := s.withCyc n) ⟨hf, hs, hh, hl⟩]
          exact runInstr_withCyc hpq s n

/-- Settles O58: the second state is the first with another value of the counter, and a step commutes with that. -/
theorem cyclesAreInformational : Obligations.CyclesAreInformational := by
  intro p q s t hpq hst
  rw [hst.eq_withCyc]
  exact stepWith_withCyc hpq s t.cyc

end Sys2Proof.Machine

/-! ### The probe against the arithmetic carry (R17)

The facts about carries are those of `BitVec.carry`, read on numbers at a width that holds the bits in question. -/

namespace Sys2Proof

/-- The carry into bit `i` of the full sum `a + b`. -/
def carryInto (a b i : Nat) : Bool := decide (2 ^ i ≤ a % 2 ^ i + b % 2 ^ i)

theorem carry_ofNat {w i : Nat} (hi : i ≤ w) (a b : Nat) :
    BitVec.carry i (BitVec.ofNat w a) (BitVec.ofNat w b) false = carryInto a b i := by
  simp [BitVec.carry, carryInto, Nat.mod_mod_of_dvd _ (pow_dvd_pow 2 hi)]

theorem getLsbD_ofNat_succ (a i : Nat) : (BitVec.ofNat (i + 1) a).getLsbD i = a.testBit i := by
  simp only [BitVec.getLsbD_ofNat, Nat.lt_succ_self, decide_true, Bool.true_and]

theorem testBit_add_eq_xor (a b i : Nat) :
    (a + b).testBit i = (a.testBit i ^^ (b.testBit i ^^ carryInto a b i)) := by
  have h := BitVec.getLsbD_add (Nat.lt_succ_self i) (BitVec.ofNat (i + 1) a) (BitVec.ofNat (i + 1) b)
  rwa [carry_ofNat (Nat.le_succ i), ← BitVec.ofNat_add, getLsbD_ofNat_succ, getLsbD_ofNat_succ,
    getLsbD_ofNat_succ] at h

/-- The carry out of bit `i`, which is the carry into the next one, is the majority of the bits and the carry in. -/
theorem carryInto_succ (a b i : Nat) :
    carryInto a b (i + 1) = (a.testBit i).atLeastTwo (b.testBit i) (carryInto a b i) := by
  have h := BitVec.carry_succ i (BitVec.ofNat (i + 1) a) (BitVec.ofNat (i + 1) b) false
  rwa [carry_ofNat le_rfl, carry_ofNat (Nat.le_succ i), getLsbD_ofNat_succ, getLsbD_ofNat_succ] at h

theorem probe_eq_and_xor (a b i : Nat) : probe a b i = (a.testBit i && (b.testBit i ^^ carryInto a b i)) := by
  rw [probe, testBit_add_eq_xor]
  cases a.testBit i <;> simp

/-- Settles O33: the probe and the carry out as functions of the two bits and the carry in, compared on their values. -/
theorem probeAgainstArithmeticCarry : Obligations.ProbeAgainstArithmeticCarry := by
  intro a b i c carryOut
  have hcarry : carryOut = (a.testBit i).atLeastTwo (b.testBit i) c := carryInto_succ a b i
  have hprobe : probe a b i = (a.testBit i && (b.testBit i ^^ c)) := probe_eq_and_xor a b i
  refine ⟨by simp [probe], hcarry, hprobe, ?_, by decide⟩
  rw [hprobe, hcarry]
  cases a.testBit i <;> cases b.testBit i <;> cases c <;> decide

/-! ### The fields of the opcode bytes (R62, R67) -/

/-- Settles O5: for each family, by the values of its operand or condition field. -/
theorem opcodeByteFields : Obligations.OpcodeByteFields := by
  intro quit
  refine ⟨?movRegReg, ?movRegM, ?movMReg, ?alu, ?aluImm, ?inrDcr, ?mvi, ?lxi, ?inxDcxDad, ?ldaxStax, ?pushPop,
    ?jumpCall, ?retIf, ?rst⟩
  case movRegReg => intro dst r; cases dst <;> cases r <;> rfl
  case movRegM | movMReg => intro r; cases r <;> rfl
  case alu => intro o x; cases o <;> rcases x with ⟨_ | _⟩ | _ <;> rfl
  case aluImm => intro o d8; cases o <;> rfl
  case inrDcr => intro x; rcases x with ⟨_ | _⟩ | _ <;> exact ⟨rfl, rfl⟩
  case mvi => intro x d8; rcases x with ⟨_ | _⟩ | _ <;> rfl
  case lxi => intro p d16; rcases p with ⟨_ | _⟩ | _ <;> rfl
  case inxDcxDad => intro p; rcases p with ⟨_ | _⟩ | _ <;> exact ⟨rfl, rfl, rfl⟩
  case ldaxStax => intro p; cases p <;> exact ⟨rfl, rfl⟩
  case pushPop => intro p; rcases p with ⟨_ | _⟩ | _ <;> exact ⟨rfl, rfl⟩
  case jumpCall => intro cc a16; cases cc <;> exact ⟨rfl, rfl⟩
  case retIf => intro cc; cases cc <;> rfl
  case rst => intro n; fin_cases n <;> rfl

end Sys2Proof

/-! ### A memory cell (R40) -/

namespace Sys2Proof.Machine

/-- The reset memory lists no cell, so each reads as an unlisted one (R40, R230). -/
@[simp] theorem State.memRead_resetWith (ieReset : Bool) (a : Word) :
    (State.resetWith ieReset).memRead a = Memory.unlisted := rfl

/-- Settles O11: the cell written, the other cells, the other fields, and the cells after reset, each by its rule. -/
theorem memoryCellHoldsLastWrite : Obligations.MemoryCellHoldsLastWrite := by
  refine ⟨fun s a v => ⟨?sameCell, ?otherCells, ?otherFields⟩, ?afterReset⟩
  case sameCell => exact s.memRead_memWrite_same a v
  case otherCells => exact fun b hb => s.memRead_memWrite_other v hb
  case otherFields => rfl
  case afterReset => exact State.memRead_resetWith Config.ieReset

end Sys2Proof.Machine

/-! ### The decoder against the encoder (R60 to R70)

One relation says how an entry of the opcode map reads operand bytes. The decoder answers what the entry reads
(`decodeBytes_cons_eq_ok_iff`), and the entry of an opcode byte reads exactly the encodings that begin with it
(`entryOf_reads_iff`). -/

namespace Sys2Proof

open Machine

/-! #### How an entry reads its operand bytes -/

/-- The entry, found at the opcode byte `op`, reads these operand bytes, low byte first, as this instruction
(R61, R63). -/
inductive Entry.Reads (op : Byte) : Entry → List Byte → Instr → Prop
  | none : Reads op .none [] (.unrecognized op)
  | one (i : Instr) : Reads op (.one i) [] i
  | two (build : Byte → Instr) (d8 : Byte) : Reads op (.two build) [d8] (build d8)
  | three (build : Word → Instr) (d16 : Word) : Reads op (.three build) [loByte d16, hiByte d16] (build d16)

theorem Entry.Reads.eq_unrecognized {op : Byte} {operands : List Byte} {i : Instr}
    (h : Entry.none.Reads op operands i) : i = .unrecognized op := by
  cases h
  rfl

/-- An entry reads one byte fewer than its length, which counts the opcode byte. -/
theorem Entry.Reads.length_eq {op : Byte} {e : Entry} {operands : List Byte} {i : Instr}
    (h : e.Reads op operands i) : e.length = operands.length + 1 := by
  cases h <;> rfl

theorem decodeBytes_cons_eq_ok_iff {quit op : Byte} {tail rest : List Byte} {i : Instr} :
    decodeBytes quit (op :: tail) = .ok (i, rest) ↔
      ∃ operands, (entryOf quit op).Reads op operands i ∧ operands ++ rest = tail := by
  constructor
  case mp =>
    intro h
    cases he : entryOf quit op with
    | none =>
      obtain ⟨rfl, rfl⟩ := by simpa [decodeBytes, he] using h
      exact ⟨[], .none, rfl⟩
    | one j =>
      obtain ⟨rfl, rfl⟩ := by simpa [decodeBytes, he] using h
      exact ⟨[], .one j, rfl⟩
    | two build =>
      match tail with
      | [] => simp [decodeBytes, he] at h
      | b1 :: _ =>
        obtain ⟨rfl, rfl⟩ := by simpa [decodeBytes, he] using h
        exact ⟨[b1], .two build b1, rfl⟩
    | three build =>
      match tail with
      | [] | [_] => simp [decodeBytes, he] at h
      | b1 :: b2 :: _ =>
        obtain ⟨rfl, rfl⟩ := by simpa [decodeBytes, he] using h
        exact ⟨_, .three build (joinBytes b2 b1), by simp⟩
  case mpr =>
    rintro ⟨operands, h, rfl⟩
    generalize he : entryOf quit op = e at h
    cases h <;> simp [decodeBytes, he]

/-- `decode3` answers what the entry reads from some operand bytes. -/
theorem exists_reads_decode3 (quit op b1 b2 : Byte) :
    ∃ operands, (entryOf quit op).Reads op operands (decode3 quit op b1 b2) := by
  rw [decode3]
  cases entryOf quit op with
  | none => exact ⟨_, .none⟩
  | one i => exact ⟨_, .one i⟩
  | two build => exact ⟨_, .two build b1⟩
  | three build => exact ⟨_, .three build (joinBytes b2 b1)⟩

theorem decode3_eq_of_reads_nil {quit op : Byte} {i : Instr} (h : (entryOf quit op).Reads op [] i) (b1 b2 : Byte) :
    decode3 quit op b1 b2 = i := by
  rw [decode3]
  generalize entryOf quit op = e at h
  cases h <;> rfl

/-! #### The opcode map, the place of `QUIT` left open -/

/-- The cell of the opcode map at a byte (R66). -/
def mapEntry (op : Byte) : Entry :=
  ((opcodeMap[op.toNat / 16]?).bind (fun row => row[op.toNat % 16]?)).getD .none

theorem entryOf_quit {quit : Byte} (hq : quitLegal quit = true) : entryOf quit quit = .one .quit :=
  if_pos ⟨rfl, of_decide_eq_true hq⟩

theorem entryOf_of_ne {quit op : Byte} (h : op ≠ quit) : entryOf quit op = mapEntry op :=
  if_neg fun hop => h hop.1

theorem mapEntry_of_mem_freeOpcodes {op : Byte} (h : op ∈ freeOpcodes) : mapEntry op = .none := by
  simp only [freeOpcodes, List.mem_cons, List.not_mem_nil, or_false] at h
  rcases h with rfl | rfl | rfl | rfl | rfl | rfl | rfl | rfl | rfl | rfl | rfl | rfl <;> rfl

/-- What a cell of the map reads encodes to the bytes read, and is well-formed unless its byte is free and chosen as
`QUIT`: checked in each of the 16 columns of each of the 16 rows. -/
theorem encode_of_mapEntry_reads {quit op : Byte} {operands : List Byte} {i : Instr}
    (h : (mapEntry op).Reads op operands i) :
    encode quit i = op :: operands
      ∧ i.wellFormedFor quit = (decide (op ∉ freeOpcodes) || decide (op ≠ quit)) := by
  obtain ⟨row, column, hrow, hcolumn, rfl⟩ :
      ∃ row column, row < 16 ∧ column < 16 ∧ op = BitVec.ofNat 8 (16 * row + column) :=
    ⟨op.toNat / 16, op.toNat % 16, by omega, by omega, by simp [Nat.div_add_mod]⟩
  interval_cases row <;> interval_cases column <;> cases h <;> exact ⟨rfl, rfl⟩

theorem wellFormedFor_unrecognized {quit op : Byte} :
    (Instr.unrecognized op).wellFormedFor quit = true ↔ op ∈ freeOpcodes ∧ op ≠ quit := by
  simp [Instr.wellFormedFor]

/-- The map reads back the operand bytes of every well-formed instruction but `QUIT` at its opcode byte: by the three
formats (R61). -/
theorem mapEntry_reads {quit : Byte} {i : Instr} (hi : i ≠ .quit) (hwf : i.wellFormedFor quit = true) :
    (mapEntry (opcodeOf quit i)).Reads (opcodeOf quit i) (operandBytes i) i := by
  cases i <;> dsimp only [opcodeOf, operandBytes]
  case quit => exact absurd rfl hi
  case unrecognized op =>
    rw [mapEntry_of_mem_freeOpcodes (wellFormedFor_unrecognized.1 hwf).1]
    exact .none
  case mvi_B d8 | mvi_C d8 | mvi_D d8 | mvi_E d8 | mvi_H d8 | mvi_L d8 | mvi_M d8 | mvi_A d8 | adi d8 | aci d8 | sui d8
      | sbi d8 | ani d8 | xri d8 | ori d8 | cpi d8 | out d8 | inp d8 => exact .two _ d8
  case lxi_B d16 | lxi_D d16 | lxi_H d16 | lxi_SP d16 => exact .three _ d16
  case shld a16 | lhld a16 | sta a16 | lda a16 | jmp a16 | jnz a16 | jz a16 | jnc a16 | jc a16 | jpo a16 | jpe a16
      | jp a16 | jm a16 | call a16 | cnz a16 | cz a16 | cnc a16 | cc a16 | cpo a16 | cpe a16 | cp a16 | cm a16 =>
    exact .three _ a16
  all_goals exact .one _

/-! #### The entry of an opcode byte reads the encodings that begin with it -/

/-- The byte of `QUIT` is the opcode byte of no other instruction: it is free, so the map would read that instruction
as unrecognised at the byte of `QUIT`, which is not well-formed. -/
theorem opcodeOf_ne_quit {quit : Byte} (hq : quitLegal quit = true) {i : Instr} (hi : i ≠ .quit)
    (hwf : i.wellFormedFor quit = true) : opcodeOf quit i ≠ quit := by
  intro hop
  have h := mapEntry_reads hi hwf
  rw [hop, mapEntry_of_mem_freeOpcodes (of_decide_eq_true hq)] at h
  rw [h.eq_unrecognized] at hwf
  exact (wellFormedFor_unrecognized.1 hwf).2 rfl

theorem entryOf_reads {quit : Byte} (hq : quitLegal quit = true) {i : Instr} (hwf : i.wellFormedFor quit = true) :
    (entryOf quit (opcodeOf quit i)).Reads (opcodeOf quit i) (operandBytes i) i := by
  by_cases hi : i = .quit
  · subst hi
    change (entryOf quit quit).Reads quit [] .quit
    rw [entryOf_quit hq]
    exact .one .quit
  · rw [entryOf_of_ne (opcodeOf_ne_quit hq hi hwf)]
    exact mapEntry_reads hi hwf

theorem entryOf_reads_iff {quit op : Byte} (hq : quitLegal quit = true) {operands : List Byte} {i : Instr} :
    (entryOf quit op).Reads op operands i ↔ i.wellFormedFor quit = true ∧ encode quit i = op :: operands := by
  constructor
  case mp =>
    intro h
    by_cases hop : op = quit
    · subst hop
      rw [entryOf_quit hq] at h
      cases h
      exact ⟨rfl, rfl⟩
    · rw [entryOf_of_ne hop] at h
      obtain ⟨henc, hwf⟩ := encode_of_mapEntry_reads (quit := quit) h
      exact ⟨by simp [hwf, hop], henc⟩
  case mpr =>
    rintro ⟨hwf, henc⟩
    obtain ⟨rfl, rfl⟩ := List.cons.inj henc
    exact entryOf_reads hq hwf

/-- Settles O1: the entry at the opcode byte reads the operand bytes back. -/
theorem decodeOfEncode : Obligations.DecodeOfEncode := by
  intro quit i rest hq hwf
  exact decodeBytes_cons_eq_ok_iff.2 ⟨operandBytes i, entryOf_reads hq hwf, rfl⟩

/-- Settles O2: what the entry at the first byte reads is well-formed and encodes to the bytes read. -/
theorem encodeOfDecode : Obligations.EncodeOfDecode := by
  intro quit bytes i rest hq h
  cases bytes with
  | nil => cases h
  | cons op tail =>
    obtain ⟨operands, hreads, rfl⟩ := decodeBytes_cons_eq_ok_iff.1 h
    obtain ⟨hwf, henc⟩ := (entryOf_reads_iff hq).1 hreads
    exact ⟨hwf, by rw [henc, List.cons_append]⟩

/-- Settles O3: each word by evaluation of the decoder. -/
theorem specWordsDecode : Obligations.SpecWordsDecode :=
  ⟨rfl, rfl, rfl, rfl, rfl, rfl, rfl, rfl, rfl, rfl⟩

/-! #### The unrecognised bytes (R68, R70) -/

theorem mem_unrecognisedBytes {quit op : Byte} : op ∈ unrecognisedBytes quit ↔ op ∈ freeOpcodes ∧ op ≠ quit :=
  List.mem_filter.trans (and_congr_right fun _ => bne_iff_ne)

/-- An instruction without operand bytes is decoded at its own opcode byte and at no other. -/
theorem decode3_eq_iff {quit op b1 b2 : Byte} (hq : quitLegal quit = true) {i : Instr} (hi : operandBytes i = []) :
    decode3 quit op b1 b2 = i ↔ i.wellFormedFor quit = true ∧ opcodeOf quit i = op := by
  constructor
  case mp =>
    rintro rfl
    obtain ⟨operands, hreads⟩ := exists_reads_decode3 quit op b1 b2
    obtain ⟨hwf, henc⟩ := (entryOf_reads_iff hq).1 hreads
    exact ⟨hwf, (List.cons.inj henc).1⟩
  case mpr =>
    rintro ⟨hwf, rfl⟩
    exact decode3_eq_of_reads_nil (hi ▸ entryOf_reads hq hwf) b1 b2

/-- Settles O4: both instructions have no operand bytes, so they are decoded at their opcode byte alone. -/
theorem unrecognisedBytesAreTheFreeOnes : Obligations.UnrecognisedBytesAreTheFreeOnes := by
  intro quit op b1 b2 hq
  constructor
  · rw [decode3_eq_iff hq rfl, wellFormedFor_unrecognized, mem_unrecognisedBytes]
    exact and_iff_left rfl
  · rw [decode3_eq_iff hq rfl]
    exact (and_iff_right rfl).trans eq_comm

/-! #### The length of an instruction (R60, R64) -/

/-- The length R64 lists for an opcode byte. -/
def listedLength (op : Byte) : Nat :=
  if op &&& 0xCF = 0x01 ∨ op &&& 0xC7 = 0xC2 ∨ op &&& 0xC7 = 0xC4
      ∨ op ∈ [(0x22 : Byte), 0x2A, 0x32, 0x3A, 0xC3, 0xCD] then 3
  else if op &&& 0xC7 = 0x06 ∨ op &&& 0xC7 = 0xC6 ∨ op = 0xD3 ∨ op = 0xDB then 2
  else 1

theorem length_mapEntry : ∀ op : Byte, (mapEntry op).length = listedLength op := by decide

theorem listedLength_of_mem_freeOpcodes {op : Byte} (h : op ∈ freeOpcodes) : listedLength op = 1 := by
  rw [← length_mapEntry, mapEntry_of_mem_freeOpcodes h]
  rfl

theorem length_entryOf {quit : Byte} (hq : quitLegal quit = true) (op : Byte) :
    (entryOf quit op).length = listedLength op := by
  by_cases hop : op = quit
  · rw [hop, entryOf_quit hq, listedLength_of_mem_freeOpcodes (of_decide_eq_true hq)]
    rfl
  · rw [entryOf_of_ne hop, length_mapEntry]

/-- Settles O6: the listed length of every byte, which is 1 at the free bytes, and the bytes an entry reads. -/
theorem lengthByOpcode : Obligations.LengthByOpcode := by
  refine ⟨fun quit op hq _ => length_entryOf hq op, fun quit op hq hop => ?unrecognised, fun quit i hq hwf => ?encoded⟩
  case unrecognised =>
    rw [length_entryOf hq, listedLength_of_mem_freeOpcodes (mem_unrecognisedBytes.1 hop).1]
  case encoded => exact (entryOf_reads hq hwf).length_eq.symm

end Sys2Proof

/-! ### Frames of the shared operations

What each update of the state leaves unchanged, said once as a `Frame`. The frame of an instruction is put together
from these. -/

namespace Sys2Proof.Machine

theorem Plain.controlKept {s t : State} (h : Plain s t) : ControlKept s t :=
  ⟨h.cyc, h.latch, h.halted, h.ie, h.stopped, h.fault, h.portHandler, h.imageLen, h.portLog⟩

theorem FlagsKept.of_f_eq {s t : State} (h : t.f = s.f) : FlagsKept s t [] :=
  ⟨fun fl _ => congrArg (getFlag fl) h, congrArg (· &&& 0x2A) h⟩

theorem Frame.refl (s : State) : Frame s s [] [] [] :=
  ⟨fun _ _ => rfl, .of_f_eq rfl, fun _ _ => rfl, (Plain.refl s).controlKept⟩

theorem Frame.setReg (s : State) (r : Reg) (v : Byte) : Frame s (s.setReg r v) [r] [] [] where
  regs q hq := s.reg_setReg_other r q v (List.ne_of_not_mem_cons hq)
  flags := .of_f_eq (s.setReg_f r v)
  cells x _ := s.memRead_setReg r v x
  control := (Plain.setReg s r v).controlKept

theorem Frame.setPair (s : State) (p : Pair) (v : Word) : Frame s (s.setPair p v) (pairRegs p) [] [] where
  regs q hq := by cases p <;> cases q <;> simp [pairRegs] at hq <;> rfl
  flags := .of_f_eq (s.setPair_f p v)
  cells x _ := s.memRead_setPair p v x
  control := (Plain.setPair s p v).controlKept

theorem Frame.memWrite (s : State) (x : Word) (v : Byte) : Frame s (s.memWrite x v) [] [] [x] where
  regs q _ := s.reg_memWrite x v q
  flags := .of_f_eq rfl
  cells _ hy := s.memRead_memWrite_other v (List.ne_of_not_mem_cons hy)
  control := (Plain.memWrite s x v).controlKept

theorem Frame.setOperand (s : State) (x : Operand) (v : Byte) :
    Frame s (s.setOperand x v) (regsWritten x) [] (cellsWritten s x) := by
  cases x with
  | reg r => exact .setReg s r v
  | m => exact .memWrite s s.hl v

section
variable {s t : State} {regs : List Reg} {flags : List Flag} {cells : List Word}

/-- Moving past the instruction adds nothing to a frame. -/
theorem Frame.advance (h : Frame s t regs flags cells) (n : Nat) : Frame s (t.advance n) regs flags cells where
  regs r hr := (t.reg_advance n r).trans (h.regs r hr)
  flags := h.flags
  cells x hx := (t.memRead_advance n x).trans (h.cells x hx)
  control := { h.control with }

/-- Writing the stack pointer adds nothing to a frame. -/
theorem Frame.withSp (h : Frame s t regs flags cells) (x : StackPtr) : Frame s { t with sp := x } regs flags cells where
  regs r hr := h.regs r hr
  flags := h.flags
  cells x hx := h.cells x hx
  control := { h.control with }

/-- Writing the flags byte adds the flags it changes to a frame. -/
theorem Frame.withFlags (h : Frame s t regs [] cells) {f : Byte} (hf : ∀ fl ∉ flags, getFlag fl f = s.flag fl)
    (hfixed : f &&& 0x2A = s.f &&& 0x2A) : Frame s { t with f := f } regs flags cells where
  regs r hr := h.regs r hr
  flags := ⟨hf, hfixed⟩
  cells x hx := h.cells x hx
  control := { h.control with }
end

theorem FallsThrough.advance {s t : State} (hpc : t.pc = s.pc) (hsp : t.sp = s.sp) (n : Nat) :
    FallsThrough s (t.advance n) n :=
  ⟨congrArg (· + BitVec.ofNat 16 n) hpc, hsp⟩

/-- `allFlags` leaves no flag to keep. -/
theorem forall_notMem_allFlags {p : Flag → Prop} : ∀ fl ∉ allFlags, p fl := by
  intro fl hfl
  cases fl <;> simp [allFlags] at hfl

/-! ### Flags on numbers (R16, R17) -/

theorem evenOnes_eq_evenBits (r : Byte) : evenOnes r = evenBits r.toNat := evenOnes_eq_xor r

/-- Zero, sign and parity of a flags byte that `setZSP` wrote last. -/
theorem zspOf_of_setZSP {t : State} {r f : Byte} {n : Nat} (hn : r.toNat = n) (h : t.f = setZSP r f) :
    ZSPOf t n := by
  subst hn
  refine ⟨?zero, ?sign, ?parity⟩ <;> rw [State.flag, h, getFlag_setZSP]
  case zero => simp [beq_eq_decide, BitVec.toNat_eq]
  case sign => exact BitVec.msb_eq_decide r
  case parity => exact evenOnes_eq_evenBits r

/-- The carries of a flags byte that the addition of `y` to `x` wrote. -/
theorem carriesOf_of_setCarries {t : State} {r f : Byte} {x y : Nat} (h : t.f = setZSP r (setCarries x y f)) :
    CarriesOf t x y := by
  constructor <;> simp [State.flag, h, probe]

/-! ### `ADD`, `ADI`, `ADC`, `ACI` (R80 to R87) -/

theorem Frame.setAlu {s : State} {r : AluResult} {flags : List Flag}
    (hf : ∀ fl ∉ flags, getFlag fl r.flags = s.flag fl) (hfixed : r.flags &&& 0x2A = s.f &&& 0x2A) :
    Frame s (s.setAlu r) [.a] flags [] :=
  (Frame.setReg s .a r.value).withFlags hf hfixed

theorem add8_value_toNat (a b : Byte) (c : Bool) (f : Byte) :
    (add8 a b c f).value.toNat = (a.toNat + b.toNat + c.toNat) % 256 := by
  simp [add8, Nat.add_assoc]

theorem addEffect_setAlu (s : State) (b : Byte) (c : Bool) (n : Nat) :
    AddEffect s ((s.setAlu (add8 s.a b c s.f)).advance n) b c n := by
  have hvalue := add8_value_toNat s.a b c s.f
  exact ⟨hvalue, carriesOf_of_setCarries rfl, zspOf_of_setZSP hvalue rfl,
    (Frame.setAlu forall_notMem_allFlags (fixed_add8 _ _ _ _)).advance n, .advance rfl rfl n⟩

/-- Settles O25: every form adds to the accumulator by `add8`. -/
theorem addInstructions : Obligations.AddInstructions := by
  intro s
  refine ⟨fun x => ⟨_, exec_add x s, ?_⟩, fun d8 => ⟨_, rfl, ?_⟩, fun x => ⟨_, exec_adc x s, ?_⟩,
    fun d8 => ⟨_, rfl, ?_⟩⟩ <;> exact addEffect_setAlu s _ _ _

/-! ### `SUB`, `SUI`, `SBB`, `SBI`, `CMP`, `CPI` (R81, R88 to R96) -/

theorem sub8_value_toNat (a b : Byte) (c : Bool) (f : Byte) :
    (sub8 a b c f).value.toNat = (a.toNat + 512 - b.toNat - c.toNat) % 256 := by
  have hb := b.isLt
  have hc := c.toNat_le
  simp only [sub8, BitVec.toNat_ofNat]
  omega

theorem subFlags_of_flags {s t : State} {b : Byte} {c : Bool} (h : t.f = (sub8 s.a b c s.f).flags) :
    SubFlags s t b c :=
  ⟨carriesOf_of_setCarries h, zspOf_of_setZSP (sub8_value_toNat s.a b c s.f) h⟩

theorem subEffect_setAlu (s : State) (b : Byte) (c : Bool) (n : Nat) :
    SubEffect s ((s.setAlu (sub8 s.a b c s.f)).advance n) b c n :=
  ⟨sub8_value_toNat s.a b c s.f, subFlags_of_flags rfl,
    (Frame.setAlu forall_notMem_allFlags (fixed_sub8 _ _ _ _)).advance n, .advance rfl rfl n⟩

/-- Settles O26: every form subtracts from the accumulator by `sub8`. -/
theorem subtractInstructions : Obligations.SubtractInstructions := by
  intro s
  refine ⟨fun x => ⟨_, exec_sub x s, ?_⟩, fun d8 => ⟨_, rfl, ?_⟩, fun x => ⟨_, exec_sbb x s, ?_⟩,
    fun d8 => ⟨_, rfl, ?_⟩⟩ <;> exact subEffect_setAlu s _ _ _

theorem compareEffect_cmpWithA (s : State) (b : Byte) (n : Nat) :
    CompareEffect s ((s.cmpWithA b).advance n) b n :=
  ⟨subFlags_of_flags rfl, ((Frame.refl s).withFlags forall_notMem_allFlags (fixed_sub8 _ _ _ _)).advance n,
    .advance rfl rfl n⟩

/-- The difference is 0 mod 256 only for equal bytes. -/
theorem SubFlags.zero_iff {s t : State} {b : Byte} (h : SubFlags s t b false) :
    t.flag .z = true ↔ s.a = b := by
  obtain ⟨-, hz, -, -⟩ := h
  have ha := s.a.isLt
  have hb := b.isLt
  rw [hz, decide_eq_true_iff, BitVec.toNat_eq, Bool.toNat_false]
  omega

/-- Settles O27: every form keeps the flags of `sub8` and nothing else. -/
theorem compareInstructions : Obligations.CompareInstructions := by
  intro s
  refine ⟨fun x => ⟨_, exec_cmp x s, ?cmp⟩, fun d8 => ⟨_, rfl, ?cpi⟩⟩
  case cmp =>
    obtain ⟨hflags, hframe⟩ := compareEffect_cmpWithA s (s.operand x) 1
    exact ⟨⟨hflags, hframe⟩, hflags.zero_iff⟩
  case cpi =>
    obtain ⟨hflags, hframe⟩ := compareEffect_cmpWithA s d8 2
    exact ⟨⟨hflags, hframe⟩, hflags.zero_iff⟩

/-! ### `INR` and `DCR` (R97 to R100)

Both add a constant to an operand, 1 or 0xFF, and write every flag but `CY`. -/

/-- The common form of `inc8` and `dec8`. -/
def addKeepingCarry (k : Nat) (x f : Byte) : AluResult :=
  ⟨BitVec.ofNat 8 (x.toNat + k), setZSP (BitVec.ofNat 8 (x.toNat + k)) (setFlag .ac (probe x.toNat k 3) f)⟩

/-- The common form of `State.incOperand` and `State.decOperand`. -/
def State.addToOperand (s : State) (k : Nat) (x : Operand) : State :=
  { s.setOperand x (addKeepingCarry k (s.operand x) s.f).value with
    f := (addKeepingCarry k (s.operand x) s.f).flags }

theorem State.incOperand_eq (s : State) (x : Operand) : s.incOperand x = s.addToOperand 1 x := rfl

theorem State.decOperand_eq (s : State) (x : Operand) : s.decOperand x = s.addToOperand 0xFF x := rfl

theorem State.operand_setOperand (s : State) (x : Operand) (v : Byte) : (s.setOperand x v).operand x = v := by
  cases x with
  | reg r => exact s.reg_setReg_same r v
  | m => exact s.memRead_memWrite_same s.hl v

/-- The flags byte and the program counter play no part in what an operand reads. -/
theorem State.operand_withFlags_advance (t : State) (f : Byte) (n : Nat) (x : Operand) :
    (State.advance { t with f := f } n).operand x = t.operand x := by
  cases x <;> rfl

theorem State.setOperand_pc (s : State) (x : Operand) (v : Byte) : (s.setOperand x v).pc = s.pc := by
  cases x with
  | reg r => exact s.setReg_pc r v
  | m => rfl

theorem State.setOperand_sp (s : State) (x : Operand) (v : Byte) : (s.setOperand x v).sp = s.sp := by
  cases x with
  | reg r => exact s.setReg_sp r v
  | m => rfl

theorem addKeepingCarry_fixed (k : Nat) (x f : Byte) :
    (addKeepingCarry k x f).flags &&& 0x2A = f &&& 0x2A := by
  simp [addKeepingCarry]

/-- What `INR` and `DCR` do, the auxiliary carry still said as the probe at 3. -/
theorem addToOperand_effect {s t : State} {k : Nat} {x : Operand} (ht : t = (s.addToOperand k x).advance 1) :
    (t.operand x).toNat = ((s.operand x).toNat + k) % 256
      ∧ t.flag .ac = probe (s.operand x).toNat k 3
      ∧ ZSPOf t (((s.operand x).toNat + k) % 256)
      ∧ Frame s t (regsWritten x) [.ac, .z, .s, .p] (cellsWritten s x) ∧ FallsThrough s t 1 := by
  subst ht
  have hvalue : (addKeepingCarry k (s.operand x) s.f).value.toNat = ((s.operand x).toNat + k) % 256 :=
    BitVec.toNat_ofNat _ _
  refine ⟨?value, ?ac, zspOf_of_setZSP hvalue rfl, ?frame,
    .advance (s.setOperand_pc x _) (s.setOperand_sp x _) 1⟩
  case value => rw [State.addToOperand, State.operand_withFlags_advance, State.operand_setOperand, hvalue]
  case ac => simp [State.flag, State.addToOperand, addKeepingCarry]
  case frame =>
    refine ((Frame.setOperand s x _).withFlags ?_ (addKeepingCarry_fixed _ _ _)).advance 1
    intro fl hfl
    cases fl <;> simp [addKeepingCarry, State.flag] at hfl ⊢

/-- The probe at 3 on the low nibbles: bit 3 set before the addition and clear after it (R17). -/
theorem probe_three (x k : Nat) : probe x k 3 = decide (8 ≤ x % 16 ∧ (x + k) % 16 < 8) := by
  rw [probe, Nat.testBit_eq_decide_div_mod_eq, Nat.testBit_eq_decide_div_mod_eq, ← decide_not, ← Bool.decide_and,
    decide_eq_decide]
  omega

theorem probe_one_three (x : Nat) : probe x 1 3 = decide (x % 16 = 15) := by
  rw [probe_three, decide_eq_decide]
  omega

theorem probe_ff_three (x : Nat) : probe x 0xFF 3 = decide (x % 16 = 8) := by
  rw [probe_three, decide_eq_decide]
  omega

/-- Settles O29: the addition of 1, which the probe at 3 sees exactly from a low nibble 0xF. -/
theorem incrementInstructions : Obligations.IncrementInstructions := by
  intro s quit x
  refine ⟨?encoding, _, exec_inr x s, ?effect⟩
  case encoding => rcases x with ⟨_ | _⟩ | _ <;> rfl
  case effect =>
    rw [State.incOperand_eq, ← probe_one_three]
    exact addToOperand_effect rfl

/-- Settles O30: the addition of 0xFF, which the probe at 3 sees exactly from a low nibble 8. -/
theorem decrementInstructions : Obligations.DecrementInstructions := by
  intro s x
  refine ⟨_, exec_dcr x s, ?_⟩
  rw [State.decOperand_eq, ← probe_ff_three]
  exact addToOperand_effect rfl

/-! ### `INX`, `DCX`, `DAD` (R101 to R103) -/

/-- Writing a pair and moving on: `INX` and `DCX` of a pair. -/
theorem setPair_advance_effect {s t : State} {p : Pair} {v : Word} {n : Nat} (ht : t = (s.setPair p v).advance n) :
    t.pair p = v ∧ Frame s t (pairRegs p) [] [] ∧ FallsThrough s t n := by
  subst ht
  exact ⟨by rw [State.pair_advance, State.pair_setPair_same], (Frame.setPair s p v).advance n,
    .advance (s.setPair_pc p v) (s.setPair_sp p v) n⟩

theorem spAdd_one_val (sp : StackPtr) : (spAdd sp 1).val = if sp.val = 0x10000 then 1 else sp.val + 1 := by
  have h := spAdd_val sp 1 (by decide)
  have := sp.isLt
  split at h <;> split <;> omega

theorem spAdd_neg_one_val (sp : StackPtr) : (spAdd sp (-1)).val = if sp.val = 0 then 0xFFFF else sp.val - 1 := by
  have h := spAdd_val sp (-1) (by decide)
  have := sp.isLt
  split at h <;> split <;> omega

/-- Settles O31: a pair by the addition and subtraction of words, `SP` by `SpAdd`. -/
theorem pairStepInstructions : Obligations.PairStepInstructions := by
  intro s
  refine ⟨fun p => ⟨_, exec_inx (.pair p) s, ?inxPair⟩, fun p => ⟨_, exec_dcx (.pair p) s, ?dcxPair⟩,
    ⟨_, exec_inx .sp s, spAdd_one_val s.sp, ((Frame.refl s).withSp _).advance 1, rfl⟩,
    ⟨_, exec_dcx .sp s, spAdd_neg_one_val s.sp, ((Frame.refl s).withSp _).advance 1, rfl⟩⟩
  case inxPair =>
    obtain ⟨hpair, hrest⟩ := setPair_advance_effect (s := s) (p := p) (v := s.pair p + 1) rfl
    exact ⟨(congrArg BitVec.toNat hpair).trans (BitVec.toNat_add _ _), hrest⟩
  case dcxPair =>
    obtain ⟨hpair, hrest⟩ := setPair_advance_effect (s := s) (p := p) (v := s.pair p - 1) rfl
    refine ⟨(congrArg BitVec.toNat hpair).trans ?_, hrest⟩
    rw [BitVec.toNat_sub, Nat.add_comm]
    rfl

theorem dadSum_toNat (a : Word) (b : Nat) : (dadSum a b).toNat = (a.toNat + b) % 65536 := BitVec.toNat_ofNat _ _

/-- Settles O32: `dadSum` into HL, the probe at 15 into `CY`. -/
theorem doubleAddInstructions : Obligations.DoubleAddInstructions := by
  intro s p
  refine ⟨_, exec_dad p s, ?sum, ?carry, ?frame, .advance rfl rfl 1⟩
  case sum =>
    rw [← State.hl, ← dadSum_toNat]
    exact congrArg BitVec.toNat (s.pair_setPair_same .hl _)
  case carry => simp [State.flag, State.dad, dadFlags, probe, State.hl]
  case frame =>
    refine ((Frame.setPair s .hl _).withFlags ?_ (fixed_dadFlags _ _ _)).advance 1
    intro fl hfl
    simp [dadFlags, State.flag, List.ne_of_not_mem_cons hfl]

end Sys2Proof.Machine

/-! ### AND, XOR, OR (R110 to R119) -/

namespace Sys2Proof.Machine

theorem logicEffect_setAlu (s : State) (r : Byte) (n : Nat) :
    LogicEffect s ((s.setAlu ⟨r, logicFlags r s.f⟩).advance n) r n :=
  ⟨rfl, by simp [State.flag, logicFlags], by simp [State.flag, logicFlags], zspOf_of_setZSP rfl rfl,
    (Frame.setAlu forall_notMem_allFlags (fixed_logicFlags r s.f)).advance n, .advance rfl rfl n⟩

/-- Settles O28: every form stores its result with `logicFlags` of it. -/
theorem logicInstructions : Obligations.LogicInstructions := by
  intro s
  refine ⟨fun x => ⟨⟨_, exec_ana x s, ?_⟩, ⟨_, exec_xra x s, ?_⟩, ⟨_, exec_ora x s, ?_⟩⟩,
    fun d8 => ⟨⟨_, rfl, ?_⟩, ⟨_, rfl, ?_⟩, ⟨_, rfl, ?_⟩⟩⟩ <;> exact logicEffect_setAlu s _ _

/-! ### The rotates (R120 to R123)

All four store a byte that one bit was shifted into, at the bottom or at the top, and write no flag but `CY`. -/

/-- The arithmetic of `RLC` and `RAL` shifts `c` into the bottom. -/
theorem ofNat_double_add_eq_shiftConcat (a : Byte) (c : Bool) :
    BitVec.ofNat 8 (a.toNat * 2 % 256 + c.toNat) = a.shiftConcat c := by
  rw [BitVec.toNat_eq, BitVec.toNat_ofNat, BitVec.toNat_shiftConcat, Nat.shiftLeft_eq, Nat.pow_one, Nat.mod_add_mod]

/-- The arithmetic of `RRC` and `RAR` shifts `c` into the top: the byte above the lowest bit of nine. -/
theorem ofNat_half_add_eq_extractLsb (a : Byte) (c : Bool) :
    BitVec.ofNat 8 (a.toNat / 2 + c.toNat * 128) = (BitVec.cons c a).extractLsb' 1 8 := by
  rw [BitVec.toNat_eq, BitVec.toNat_ofNat, BitVec.extractLsb'_toNat, BitVec.toNat_cons', Nat.shiftRight_eq_div_pow,
    Nat.shiftLeft_eq]
  omega

theorem getLsbD_double_add (a : Byte) (c : Bool) (i : Fin 8) :
    (BitVec.ofNat 8 (a.toNat * 2 % 256 + c.toNat)).getLsbD i = if i.val = 0 then c else a.getLsbD (i.val - 1) := by
  rw [ofNat_double_add_eq_shiftConcat, BitVec.getLsbD_shiftConcat, decide_eq_true i.isLt, Bool.true_and]

theorem getLsbD_half_add (a : Byte) (c : Bool) (i : Fin 8) :
    (BitVec.ofNat 8 (a.toNat / 2 + c.toNat * 128)).getLsbD i = if i.val = 7 then c else a.getLsbD (i.val + 1) := by
  rw [ofNat_half_add_eq_extractLsb, BitVec.getLsbD_extractLsb', decide_eq_true i.isLt, Bool.true_and,
    BitVec.getLsbD_cons, Nat.add_comm 1]
  simp only [Nat.reduceEqDiff]

theorem getFlag_setFlag_of_notMem {s : State} {fl fl' : Flag} (h : fl ∉ [fl']) (v : Bool) :
    getFlag fl (setFlag fl' v s.f) = s.flag fl := by
  simp [State.flag, List.ne_of_not_mem_cons h]

/-- What the rotates have in common, whatever the byte stored. -/
theorem setAlu_carry_effect (s : State) (v : Byte) (c : Bool) {t : State}
    (ht : t = (s.setAlu ⟨v, setFlag .cy c s.f⟩).advance 1) :
    t.flag .cy = c ∧ Frame s t [.a] [.cy] [] ∧ FallsThrough s t 1 := by
  subst ht
  exact ⟨by simp [State.flag],
    (Frame.setAlu (fun _ hfl => getFlag_setFlag_of_notMem hfl c) (fixed_setFlag .cy c s.f)).advance 1,
    .advance rfl rfl 1⟩

/-- Settles O34: the bits of the byte that a bit was shifted into; `RLC` and `RRC` shift in the bit that falls out. -/
theorem rotateInstructions : Obligations.RotateInstructions := by
  intro s
  refine ⟨⟨_, rfl, fun i => ?rlc, setAlu_carry_effect s _ _ rfl⟩,
    ⟨_, rfl, fun i => ?rrc, setAlu_carry_effect s _ _ rfl⟩,
    ⟨_, rfl, getLsbD_double_add s.a _, setAlu_carry_effect s _ _ rfl⟩,
    ⟨_, rfl, getLsbD_half_add s.a _, setAlu_carry_effect s _ _ rfl⟩⟩
  case rlc =>
    refine (getLsbD_double_add s.a s.a.msb i).trans ?_
    split
    · next h => rw [h]; rfl
    · next h => rw [show (i.val + 7) % 8 = i.val - 1 by omega]
  case rrc =>
    refine (getLsbD_half_add s.a (s.a.getLsbD 0) i).trans ?_
    split
    · next h => rw [h]
    · next h => rw [show (i.val + 1) % 8 = i.val + 1 by omega]

/-! ### Rotates come round (R120, R122)

`RLC` rotates the eight bits of the accumulator by one place, `RAL` the nine bits of carry and accumulator; a rotation
of `w` bits done `w` times is the identity. -/

/-- The rotation to the left by one place. -/
def rotateOnce {w : Nat} (x : BitVec w) : BitVec w := x.shiftConcat x.msb

theorem getLsbD_rotateOnce {w j : Nat} (x : BitVec w) (hj : j < w) :
    (rotateOnce x).getLsbD ((j + 1) % w) = x.getLsbD j := by
  rw [rotateOnce, BitVec.getLsbD_shiftConcat, decide_eq_true (Nat.mod_lt _ (Nat.zero_lt_of_lt hj)), Bool.true_and]
  obtain hlt | rfl := Nat.lt_or_eq_of_le hj
  · rw [Nat.mod_eq_of_lt hlt, if_neg j.succ_ne_zero, Nat.succ_sub_one]
  · rw [Nat.mod_self, if_pos rfl, BitVec.msb_eq_getLsbD_last, Nat.succ_sub_one]

/-- After `n` rotations the bit from place `j` stands `n` places on. -/
theorem getLsbD_rotateOnce_iterate {w j : Nat} (x : BitVec w) (hj : j < w) (n : Nat) :
    (rotateOnce^[n] x).getLsbD ((j + n) % w) = x.getLsbD j := by
  induction n with
  | zero => rw [Nat.add_zero, Nat.mod_eq_of_lt hj, Function.iterate_zero_apply]
  | succ n ih =>
    rw [Function.iterate_succ_apply', ← Nat.add_assoc, ← Nat.mod_add_mod,
      getLsbD_rotateOnce _ (Nat.mod_lt _ (Nat.zero_lt_of_lt hj)), ih]

theorem rotateOnce_iterate_width {w : Nat} (x : BitVec w) : rotateOnce^[w] x = x := by
  refine BitVec.eq_of_getLsbD_eq fun j hj => ?_
  have h := getLsbD_rotateOnce_iterate x hj w
  rwa [Nat.add_mod_right, Nat.mod_eq_of_lt hj] at h

/-- A one-byte instruction that replaces the accumulator and the flags by what `op` makes of them. -/
def State.mapA (op : Byte → Byte → AluResult) (s : State) : State := (s.setAlu (op s.a s.f)).advance 1

/-- The nine bits that `RAL` rotates: carry above the accumulator. -/
def State.carryA (s : State) : BitVec 9 := BitVec.cons (s.flag .cy) s.a

theorem execTimes_mapA {i : Instr} {op : Byte → Byte → AluResult} (h : ∀ s, exec i s = .next (s.mapA op)) (n : Nat)
    (s : State) : execTimes n i s = .next ((State.mapA op)^[n] s) := by
  induction n generalizing s with
  | zero => rfl
  | succ n ih =>
    rw [execTimes, h, Function.iterate_succ_apply]
    exact ih _

theorem mapA_iterate_pc (op : Byte → Byte → AluResult) (n : Nat) (s : State) :
    ((State.mapA op)^[n] s).pc = s.pc + n • 1 := by
  have h : Function.Semiconj State.pc (State.mapA op) (· + 1) := fun _ => rfl
  rw [h.iterate_right n s, add_right_iterate]

theorem a_semiconj_rlc : Function.Semiconj State.a (State.mapA rlc8) rotateOnce :=
  fun s => ofNat_double_add_eq_shiftConcat s.a s.a.msb

theorem cons_msb_shiftConcat (x : Byte) (c : Bool) :
    BitVec.cons x.msb (x.shiftConcat c) = rotateOnce (BitVec.cons c x) := by
  refine BitVec.eq_of_getLsbD_eq fun i hi => ?_
  rw [rotateOnce, BitVec.msb_cons, BitVec.getLsbD_shiftConcat, decide_eq_true hi, Bool.true_and, BitVec.getLsbD_cons,
    BitVec.getLsbD_cons, BitVec.getLsbD_shiftConcat, if_neg (show i - 1 ≠ 8 by omega)]
  split
  · next h => subst h; rfl
  · next h => rw [decide_eq_true (show i < 8 by omega), Bool.true_and]

theorem carryA_semiconj_ral : Function.Semiconj State.carryA (State.mapA ral8) rotateOnce := fun s => by
  have hcy : (s.mapA ral8).flag .cy = s.a.msb := by simp [State.mapA, ral8, State.flag]
  have ha : (s.mapA ral8).a = s.a.shiftConcat (s.flag .cy) := ofNat_double_add_eq_shiftConcat s.a (s.flag .cy)
  rw [State.carryA, hcy, ha, cons_msb_shiftConcat, State.carryA]

theorem State.carryA_inj {s t : State} (h : t.carryA = s.carryA) : t.a = s.a ∧ t.flag .cy = s.flag .cy := by
  have ha := congrArg (BitVec.setWidth 8) h
  have hcy := congrArg BitVec.msb h
  rw [State.carryA, State.carryA] at ha hcy
  rw [BitVec.setWidth_cons, BitVec.setWidth_cons] at ha
  rw [BitVec.msb_cons, BitVec.msb_cons] at hcy
  exact ⟨ha, hcy⟩

/-- Settles O35: eight rotations of eight bits, nine rotations of nine. -/
theorem rotatesComeRound : Obligations.RotatesComeRound := by
  intro s
  refine ⟨⟨_, execTimes_mapA (fun _ => rfl) 8 s, ?rlc, mapA_iterate_pc rlc8 8 s⟩,
    ⟨_, execTimes_mapA (fun _ => rfl) 9 s, ?ral⟩⟩
  case rlc => rw [a_semiconj_rlc.iterate_right 8 s, rotateOnce_iterate_width]
  case ral =>
    have hround : ((State.mapA ral8)^[9] s).carryA = s.carryA := by
      rw [carryA_semiconj_ral.iterate_right 9 s, rotateOnce_iterate_width]
    obtain ⟨ha, hcy⟩ := State.carryA_inj hround
    exact ⟨ha, hcy, mapA_iterate_pc ral8 9 s⟩

/-! ### `DAA` (R124)

Each branch writes the probe of adding 6 to its nibble, which says whether the nibble was above 9. The branch that is
not taken leaves a flag that is already false, so the flag says the same either way. -/

theorem probe_six_three (x : Nat) : probe x 6 3 = decide (x % 16 > 9) := by
  rw [probe_three, decide_eq_decide]
  omega

/-- A flag written with `p` exactly when `p` or the flag itself holds is `p` afterwards. -/
theorem getFlag_branch {fl : Flag} {f : Byte} {p old : Bool} (hold : getFlag fl f = old) :
    getFlag fl (if (p || old) = true then setFlag fl p f else f) = p := by
  subst hold
  cases p <;> cases h : getFlag fl f <;> simp [h]

theorem daaLowValue_lt (a f : Byte) : daaLowValue a f < 256 := by
  have ha := a.isLt
  rw [daaLowValue]
  split <;> omega

theorem getFlag_daa8_ac (a f : Byte) : getFlag .ac (daa8 a f).flags = decide (a.toNat % 16 > 9) := by
  have hkeep (taken v : Bool) (g : Byte) :
      getFlag .ac (if taken = true then setFlag .cy v g else g) = getFlag .ac g := by
    cases taken <;> simp
  simp only [daa8, hkeep, probe_six_three]
  exact getFlag_branch rfl

theorem getFlag_daa8_cy (a f : Byte) : getFlag .cy (daa8 a f).flags = decide (daaLowValue a f / 16 > 9) := by
  have hnibble : daaLowValue a f / 16 % 16 = daaLowValue a f / 16 := by
    have := daaLowValue_lt a f
    omega
  simp only [daa8, probe_six_three, hnibble]
  refine getFlag_branch ?_
  split <;> simp

theorem getFlag_daa8_of_notMem {fl : Flag} (h : fl ∉ [Flag.ac, .cy]) (a f : Byte) :
    getFlag fl (daa8 a f).flags = getFlag fl f := by
  obtain ⟨hac, hcy⟩ : fl ≠ .ac ∧ fl ≠ .cy := by simpa using h
  simp [daa8, apply_ite (getFlag fl), hac, hcy]

/-- Adding 6 to the high nibble alone is adding 0x60. -/
theorem daa8_value_toNat (a f : Byte) :
    (daa8 a f).value.toNat =
      if daaLowValue a f / 16 > 9 ∨ getFlag .cy f = true then (daaLowValue a f + 0x60) % 256 else daaLowValue a f := by
  have := daaLowValue_lt a f
  simp only [daa8, daaHighTaken, Bool.or_eq_true, decide_eq_true_eq, BitVec.toNat_ofNat]
  split <;> omega

theorem daaLowValue_eq (a f : Byte) :
    daaLowValue a f = if a.toNat % 16 > 9 ∨ getFlag .ac f = true then (a.toNat + 6) % 256 else a.toNat := by
  simp [daaLowValue, daaLowTaken]

/-- Settles O36: the value of `daa8`, and its two flags, each the probe of its branch. -/
theorem decimalAdjust : Obligations.DecimalAdjust := by
  intro s
  refine ⟨_, rfl, ?effect,
    (Frame.setAlu (fun _ hfl => getFlag_daa8_of_notMem hfl s.a s.f) (fixed_daa8 s.a s.f)).advance 1,
    .advance rfl rfl 1⟩
  case effect =>
    rw [State.flag, State.flag, ← daaLowValue_eq]
    exact ⟨daa8_value_toNat s.a s.f, getFlag_daa8_ac s.a s.f, getFlag_daa8_cy s.a s.f⟩

/-! ### `CMA`, `STC`, `CMC` (R125 to R127) -/

/-- What `STC` and `CMC` have in common, whatever the carry written. -/
theorem withCarry_effect (s : State) (c : Bool) {t : State}
    (ht : t = State.advance { s with f := setFlag .cy c s.f } 1) :
    t.flag .cy = c ∧ Frame s t [] [.cy] [] ∧ FallsThrough s t 1 := by
  subst ht
  exact ⟨by simp [State.flag],
    ((Frame.refl s).withFlags (fun _ hfl => getFlag_setFlag_of_notMem hfl c) (fixed_setFlag .cy c s.f)).advance 1,
    .advance rfl rfl 1⟩

/-- Settles O37: `CMA` flips every bit by the exclusive or with 0xFF, `STC` and `CMC` write the carry alone. -/
theorem complementAndCarry : Obligations.ComplementAndCarry := by
  intro s
  refine ⟨⟨_, rfl, fun i => ?cma, (Frame.setReg s .a _).advance 1, .advance rfl rfl 1⟩,
    ⟨_, rfl, withCarry_effect s _ rfl⟩, ⟨_, rfl, withCarry_effect s _ rfl⟩⟩
  case cma =>
    have hnot : s.a ^^^ 0xFF = ~~~s.a := BitVec.xor_allOnes
    exact (congrArg (BitVec.getLsbD · i) hnot).trans (by simp)

end Sys2Proof.Machine

/-! ### Data transfer (R130 to R142)

None of these instructions writes a flag. A load is a write of one register or pair, a store a write of one or two
cells, and each then moves past itself; so each family is one of three effects. -/

namespace Sys2Proof.Machine

theorem ControlKept.trans {s t u : State} (h : ControlKept s t) (h' : ControlKept t u) : ControlKept s u :=
  ⟨h'.cyc.trans h.cyc, h'.latch.trans h.latch, h'.halted.trans h.halted, h'.ie.trans h.ie,
    h'.stopped.trans h.stopped, h'.fault.trans h.fault, h'.portHandler.trans h.portHandler,
    h'.imageLen.trans h.imageLen, h'.portLog.trans h.portLog⟩

theorem FlagsKept.trans {s t u : State} {flags flags' : List Flag} (h : FlagsKept s t flags)
    (h' : FlagsKept t u flags') : FlagsKept s u (flags ++ flags') := by
  obtain ⟨hkept, hfixed⟩ := h
  obtain ⟨hkept', hfixed'⟩ := h'
  refine ⟨fun fl hfl => ?_, hfixed'.trans hfixed⟩
  obtain ⟨hfl, hfl'⟩ := not_or.1 (mt List.mem_append.2 hfl)
  exact (hkept' fl hfl').trans (hkept fl hfl)

/-- One update after another changes at most what either of them may. -/
theorem Frame.trans {s t u : State} {regs regs' : List Reg} {flags flags' : List Flag} {cells cells' : List Word}
    (h : Frame s t regs flags cells) (h' : Frame t u regs' flags' cells') :
    Frame s u (regs ++ regs') (flags ++ flags') (cells ++ cells') where
  regs r hr := by
    obtain ⟨hr, hr'⟩ := not_or.1 (mt List.mem_append.2 hr)
    exact (h'.regs r hr').trans (h.regs r hr)
  flags := h.flags.trans h'.flags
  cells x hx := by
    obtain ⟨hx, hx'⟩ := not_or.1 (mt List.mem_append.2 hx)
    exact (h'.cells x hx').trans (h.cells x hx)
  control := h.control.trans h'.control

/-- Going to an address adds nothing to a frame. -/
theorem Frame.withPc {s t : State} {regs : List Reg} {flags : List Flag} {cells : List Word}
    (h : Frame s t regs flags cells) (x : Word) : Frame s { t with pc := x } regs flags cells where
  regs r hr := h.regs r hr
  flags := h.flags
  cells y hy := h.cells y hy
  control := { h.control with }

theorem Frame.memWrite16 (s : State) (x v : Word) : Frame s (s.memWrite16 x v) [] [] [x, x + 1] :=
  (Frame.memWrite s x _).trans (Frame.memWrite _ (x + 1) _)

/-- Writing a register and moving on: every load of one byte. -/
theorem setReg_advance_effect (s : State) (r : Reg) (v : Byte) (n : Nat) :
    ((s.setReg r v).advance n).reg r = v ∧ Frame s ((s.setReg r v).advance n) [r] [] []
      ∧ FallsThrough s ((s.setReg r v).advance n) n :=
  ⟨by rw [State.reg_advance, State.reg_setReg_same], (Frame.setReg s r v).advance n,
    .advance (s.setReg_pc r v) (s.setReg_sp r v) n⟩

/-- Writing a cell and moving on: every store of one byte. -/
theorem memWrite_advance_effect (s : State) (x : Word) (v : Byte) (n : Nat) :
    ((s.memWrite x v).advance n).memRead x = v ∧ Frame s ((s.memWrite x v).advance n) [] [] [x]
      ∧ FallsThrough s ((s.memWrite x v).advance n) n :=
  ⟨s.memRead_memWrite_same x v, (Frame.memWrite s x v).advance n, .advance rfl rfl n⟩

/-! ### `MOV` (R130 to R132) -/

/-- Settles O38: the forms into a register write it, the form into `M` writes the cell at HL. -/
theorem moveInstructions : Obligations.MoveInstructions := by
  intro s quit
  refine ⟨fun dst r => ⟨?regReg, _, exec_movRegReg dst r s, setReg_advance_effect s dst _ 1⟩,
    fun dst => ⟨?regM, _, exec_movRegM dst s, setReg_advance_effect s dst _ 1⟩,
    fun r => ⟨?mReg, _, exec_movMReg r s, memWrite_advance_effect s s.hl _ 1⟩⟩
  case regReg => cases dst <;> cases r <;> rfl
  case regM => cases dst <;> rfl
  case mReg => cases r <;> rfl

/-! ### `MVI` and `LXI` (R133 to R135) -/

/-- A word is below the sentinel 0x10000, so as a stack pointer it keeps its value. -/
theorem spOfWord_val (w : Word) : (spOfWord w).val = w.toNat :=
  Nat.mod_eq_of_lt (w.isLt.trans (by decide))

/-- Settles O39: each form writes its immediate; the halves of a pair are the definition of `State.setPair`. -/
theorem immediateLoads : Obligations.ImmediateLoads := by
  intro s quit d8 d16
  refine ⟨fun r => ⟨?mviReg, _, exec_mvi (.reg r) d8 s, setReg_advance_effect s r d8 2⟩,
    ⟨rfl, _, exec_mvi .m d8 s, memWrite_advance_effect s s.hl d8 2⟩, fun p => ?lxi,
    fun p => ⟨_, exec_lxi (.pair p) d16 s, ?lxiPair⟩,
    ⟨_, exec_lxi .sp d16 s, spOfWord_val d16, ((Frame.refl s).withSp _).advance 3, rfl⟩⟩
  case mviReg => cases r <;> rfl
  case lxi => rcases p with ⟨_ | _⟩ | _ <;> rfl
  case lxiPair =>
    obtain ⟨hpair, hrest⟩ := setPair_advance_effect (s := s) (p := p) (v := d16) (n := 3) rfl
    refine ⟨hpair, ?bc, ?de, ?hl, hrest⟩ <;> rintro rfl <;> exact ⟨rfl, rfl⟩

/-! ### `LDAX`, `STAX`, `LDA`, `STA` (R136 to R139) -/

/-- Settles O40: a write of the accumulator, and of the cell at the pair's address. -/
theorem accumulatorIndirect : Obligations.AccumulatorIndirect := by
  intro s quit p
  refine ⟨?ldax, ?stax, rfl, rfl, ⟨_, exec_ldax p s, setReg_advance_effect s .a _ 1⟩,
    ⟨_, exec_stax p s, memWrite_advance_effect s _ s.a 1⟩⟩
  case ldax | stax => cases p <;> rfl

/-- Settles O41: a write of the accumulator, and of the cell at the address given. -/
theorem accumulatorDirect : Obligations.AccumulatorDirect := fun s _ a16 =>
  ⟨rfl, rfl, ⟨_, rfl, setReg_advance_effect s .a (s.memRead a16) 3⟩, ⟨_, rfl, memWrite_advance_effect s a16 s.a 3⟩⟩

/-! ### `LHLD` and `SHLD` (R140, R141) -/

theorem State.memRead_memWrite16_low (s : State) (x v : Word) : (s.memWrite16 x v).memRead x = loByte v := by
  have hne : x ≠ x + 1 := by simp
  rw [State.memRead_memWrite16, if_neg hne, if_pos rfl]

theorem State.memRead_memWrite16_high (s : State) (x v : Word) : (s.memWrite16 x v).memRead (x + 1) = hiByte v := by
  rw [State.memRead_memWrite16, if_pos rfl]

/-- Settles O42: the halves of a 16-bit read and of a 16-bit write, low byte at the lower address (R43). -/
theorem pairDirect : Obligations.PairDirect := by
  intro s quit a16
  refine ⟨rfl, rfl, ⟨_, rfl, ?lowLoaded, ?highLoaded, (Frame.setPair s .hl _).advance 3, .advance rfl rfl 3⟩,
    ⟨_, rfl, ?lowStored, ?highStored, (Frame.memWrite16 s a16 s.hl).advance 3, .advance rfl rfl 3⟩⟩
  case lowLoaded => exact loByte_joinBytes _ _
  case highLoaded => exact hiByte_joinBytes _ _
  case lowStored => exact (s.memRead_memWrite16_low a16 s.hl).trans (loByte_joinBytes s.h s.l)
  case highStored => exact (s.memRead_memWrite16_high a16 s.hl).trans (hiByte_joinBytes s.h s.l)

/-! ### `XCHG` and `PCHL` (R142, R168) -/

/-- Settles O43: `XCHG` is two pair writes of values read before either, `PCHL` a write of `PC` alone. -/
theorem exchangeAndJumpToPair : Obligations.ExchangeAndJumpToPair := by
  intro s
  have hframe := (Frame.setPair s .de (s.pair .hl)).trans (Frame.setPair _ .hl (s.pair .de))
  exact ⟨⟨_, rfl, hiByte_joinBytes s.h s.l, loByte_joinBytes s.h s.l, hiByte_joinBytes s.d s.e,
    loByte_joinBytes s.d s.e, hframe.advance 1, .advance rfl rfl 1⟩,
    ⟨_, rfl, rfl, (Frame.refl s).withPc s.hl, rfl⟩⟩

end Sys2Proof.Machine

/-! ### The stack (R150 to R157)

A `PUSH` is one `push16`; a `POP` drops the top of the stack and writes the word found there. What goes through the
stack is therefore `State.stackTop_push16`, and where the stack pointer ends is `spAdd_down_up`. -/

namespace Sys2Proof.Machine

theorem Frame.push16 (s : State) (v : Word) :
    Frame s (s.push16 v) [] [] [spAddr (spAdd s.sp (-1)), spAddr (spAdd s.sp (-2))] :=
  ((Frame.memWrite s _ (hiByte v)).trans (Frame.memWrite _ _ (loByte v))).withSp _

theorem Frame.dropTop (s : State) : Frame s s.dropTop [] [] [] := (Frame.refl s).withSp _

/-- Going to an address keeps the effect of a push. -/
theorem PushEffect.withPc {s t : State} {v : Word} (h : PushEffect s t v) (x : Word) :
    PushEffect s { t with pc := x } v := h

theorem PushEffect.push16 (s : State) (v : Word) : PushEffect s (s.push16 v) v := by
  refine ⟨?high, ?low, rfl, (Frame.push16 s v).cells⟩
  case high => rw [State.memRead_push16, if_neg (spAddr_pushed_ne s.sp), if_pos rfl]
  case low => rw [State.memRead_push16, if_pos rfl]

/-! #### `PUSH` and `POP` (R152 to R155) -/

/-- Settles O44: a `PUSH` is the push of its pair. -/
theorem pushInstructions : Obligations.PushInstructions := by
  intro s p
  refine ⟨_, exec_push p s, ?effect, (Frame.push16 s _).advance 1, rfl⟩
  case effect => cases p <;> exact (PushEffect.push16 s _).withPc _

/-- Settles O45: `POP rp` writes a pair after the top is dropped; `POP PSW` writes the accumulator and the masked
flags byte. -/
theorem popInstructions : Obligations.PopInstructions := by
  intro s lo hi
  refine ⟨fun p => ⟨_, exec_pop (.pair p) s, ?pair⟩, ⟨_, exec_pop .psw s, ?psw⟩⟩
  case pair =>
    obtain ⟨hpair, hframe, hpc, hsp⟩ :=
      setPair_advance_effect (s := s.dropTop) (p := p) (v := s.stackTop) (n := 1) rfl
    exact ⟨hpair, hsp, (Frame.dropTop s).trans hframe, hpc⟩
  case psw =>
    have hframe := (Frame.dropTop s).trans (Frame.setReg s.dropTop .a (hiByte s.stackTop))
    exact ⟨hiByte_joinBytes hi lo, congrArg wholeFlags (loByte_joinBytes hi lo), rfl, hframe.regs, hframe.cells,
      ((Plain.popInto s .psw s.stackTop).advance 1).controlKept, rfl⟩

/-! #### A `POP` right after a `PUSH` -/

/-- The `POP` finds the word that the `PUSH` left, whatever the two pairs are. -/
theorem exec_pop_after_push (s : State) (v : Word) (q : PairPsw) :
    exec (.pop q) ((s.push16 v).advance 1)
      = .next ((((s.push16 v).advance 1).dropTop.setPairPsw q v).advance 1) := by
  have htop : ((s.push16 v).advance 1).stackTop = v := (State.stackTop_congr rfl rfl).trans (s.stackTop_push16 v)
  rw [exec_pop, htop]

/-- Two bytes pushed and popped as `PSW`: the high one in the accumulator, the low one masked in the flags (R155). -/
theorem exec_pop_psw_after_push (s : State) (hi lo : Byte) :
    ∃ u, exec (.pop .psw) ((s.push16 (joinBytes hi lo)).advance 1) = .next u ∧ u.a = hi
      ∧ (∀ fl, u.flag fl = getFlag fl lo) ∧ u.f &&& 0x2A = 0x02 := by
  refine ⟨_, exec_pop_after_push s _ .psw, hiByte_joinBytes hi lo, fun fl => ?flags, fixed_wholeFlags _⟩
  case flags => exact (getFlag_wholeFlags fl _).trans (congrArg (getFlag fl) (loByte_joinBytes hi lo))

/-- Settles O46: both pushes leave two bytes for `POP PSW`. -/
theorem pswThroughTheStack : Obligations.PswThroughTheStack := fun s =>
  have ⟨u, hu⟩ := exec_pop_psw_after_push s s.a s.f
  have ⟨w, hw⟩ := exec_pop_psw_after_push s s.b s.c
  ⟨⟨_, u, exec_push .psw s, hu⟩, ⟨_, w, exec_push (.pair .bc) s, hw⟩⟩

/-- Settles O47: the word pushed is the word popped, and neither half writes a register outside the pair popped. -/
theorem pairThroughTheStack : Obligations.PairThroughTheStack := by
  intro s p q
  refine ⟨_, _, exec_push (.pair p) s, exec_pop_after_push s _ (.pair q), ?popped⟩
  obtain ⟨hpair, hpop, -, hsp⟩ :=
    setPair_advance_effect (s := ((s.push16 (s.pair p)).advance 1).dropTop) (p := q) (v := s.pair p) (n := 1) rfl
  have hpush := ((Frame.push16 s (s.pair p)).advance 1).trans (Frame.dropTop _)
  exact ⟨hpair, hsp.trans (spAdd_down_up s.sp), (hpush.trans hpop).regs⟩

/-! #### `XTHL` and `SPHL` (R156, R157) -/

theorem Frame.exchangeTop (s : State) :
    Frame s s.exchangeTop [.h, .l] [] [spAddr s.sp, spAddr (spAdd s.sp 1)] :=
  ((Frame.memWrite s _ s.l).trans (Frame.memWrite _ _ s.h)).trans (Frame.setPair _ .hl s.stackTop)

/-- Everything `XTHL` does to the cells (R156). -/
theorem State.memRead_exchangeTop (s : State) (y : Word) :
    s.exchangeTop.memRead y =
      if y = spAddr (spAdd s.sp 1) then s.h else if y = spAddr s.sp then s.l else s.memRead y := by
  rw [State.exchangeTop, State.memRead_setPair, State.memRead_memWrite, State.memRead_memWrite]

/-- Settles O48: HL takes the top of the stack, and its two cells, which differ, take HL. -/
theorem exchangeWithStackTop : Obligations.ExchangeWithStackTop := by
  intro s quit
  refine ⟨rfl, _, rfl, loByte_joinBytes _ _, hiByte_joinBytes _ _, ?low, ?high, (Frame.exchangeTop s).advance 1,
    .advance rfl rfl 1⟩
  case low =>
    rw [State.memRead_advance, State.memRead_exchangeTop, if_neg (spAddr_top_ne s.sp).symm, if_pos rfl]
  case high => rw [State.memRead_advance, State.memRead_exchangeTop, if_pos rfl]

/-- Settles O49: the stack pointer takes a word, which is below the sentinel. -/
theorem stackPointerFromPair : Obligations.StackPointerFromPair := by
  intro s quit
  have hval : (spOfWord s.hl).val = s.hl.toNat := spOfWord_val s.hl
  have hle : (spOfWord s.hl).val ≤ 0xFFFF := hval.le.trans (Nat.le_of_lt_succ s.hl.isLt)
  exact ⟨rfl, _, rfl, hval, hle, ((Frame.refl s).withSp _).advance 1, rfl⟩

end Sys2Proof.Machine

/-! ### Control transfer (R160 to R167)

A `CALL` or `RST` is one `State.call`, a `RET` one `State.ret`; a conditional form is `State.branchIf` of the same
update. -/

namespace Sys2Proof.Machine

section
variable {s t : State} {cc : Cond}

theorem State.branchIf_of_holds (h : condHolds cc s.f = true) (n : Nat) : s.branchIf cc n t = t := if_pos h

theorem State.branchIf_of_not_holds (h : condHolds cc s.f = false) (n : Nat) : s.branchIf cc n t = s.advance n :=
  if_neg (ne_true_of_eq_false h)

/-- Not taking a branch changes nothing outside the frame of taking it. -/
theorem Frame.branchIf (cc : Cond) (n : Nat) (h : Frame s t [] [] []) : Frame s (s.branchIf cc n t) [] [] [] := by
  cases hcc : condHolds cc s.f with
  | true => rwa [State.branchIf_of_holds hcc]
  | false =>
    rw [State.branchIf_of_not_holds hcc]
    exact (Frame.refl s).advance n
end

theorem State.branchIf_pc (s t : State) (cc : Cond) (n : Nat) :
    (s.branchIf cc n t).pc = if condHolds cc s.f then t.pc else s.pc + BitVec.ofNat 16 n :=
  apply_ite State.pc _ t (s.advance n)

theorem State.branchIf_sp (s t : State) (cc : Cond) (n : Nat) (h : t.sp = s.sp) : (s.branchIf cc n t).sp = s.sp :=
  (apply_ite State.sp _ t (s.advance n)).trans (by rw [h, State.advance_sp, ite_self])

theorem Frame.ret (s : State) : Frame s s.ret [] [] [] := (Frame.dropTop s).withPc s.stackTop

/-- Everything a call does: it pushes the return address and goes to its target (R150, R163). -/
theorem call_effect (s : State) (returnTo target : Word) :
    PushEffect s (s.call returnTo target) returnTo ∧ (s.call returnTo target).pc = target
      ∧ Frame s (s.call returnTo target) [] [] [spAddr (spAdd s.sp (-1)), spAddr (spAdd s.sp (-2))] :=
  ⟨(PushEffect.push16 s returnTo).withPc target, rfl, (Frame.push16 s returnTo).withPc target⟩

/-- A `RET` finds the address that the call pushed, and the stack pointer goes down by 2 and up by 2. -/
theorem exec_ret_after_call (s : State) (returnTo target : Word) :
    ∃ u, exec .ret (s.call returnTo target) = .next u ∧ u.pc = returnTo
      ∧ u.sp = (if s.sp = 0 then 0x10000 else s.sp) :=
  have htop : (s.call returnTo target).stackTop = returnTo :=
    (State.stackTop_congr rfl rfl).trans (s.stackTop_push16 returnTo)
  ⟨_, rfl, htop, spAdd_down_up s.sp⟩

/-- Settles O54: both are a call, with the address after the instruction as the return address. -/
theorem callThenReturn : Obligations.CallThenReturn := fun s =>
  ⟨fun a16 =>
    have ⟨u, hu⟩ := exec_ret_after_call s (s.after 3) a16
    ⟨_, u, rfl, hu⟩,
  fun n =>
    have ⟨u, hu⟩ := exec_ret_after_call s (s.after 1) (BitVec.ofNat 16 (8 * n.val))
    ⟨_, u, exec_rst n s, hu⟩⟩

/-- Settles O50: a jump writes `PC` alone, and each condition is its row of `condHolds` (R160). -/
theorem jumpInstructions : Obligations.JumpInstructions := by
  intro s quit a16
  have hframe : Frame s { s with pc := a16 } [] [] [] := (Frame.refl s).withPc a16
  refine ⟨rfl, ⟨_, rfl, rfl, rfl, hframe⟩, fun cc => ⟨?encoding, _, exec_jumpIf cc a16 s, s.branchIf_pc _ cc 3,
    s.branchIf_sp _ cc 3 rfl, hframe.branchIf cc 3⟩, rfl, rfl, rfl, rfl, rfl, rfl, rfl, rfl⟩
  case encoding => cases cc <;> rfl

/-- Settles O51: taken, the effect of a call; not taken, the move past the instruction. -/
theorem callInstructions : Obligations.CallInstructions := by
  intro s a16
  refine ⟨⟨_, rfl, call_effect s (s.after 3) a16⟩, fun cc => ⟨_, exec_callIf cc a16 s, fun h => ?taken,
    fun h => ?notTaken⟩⟩
  case taken =>
    rw [State.branchIf_of_holds h]
    exact call_effect s (s.after 3) a16
  case notTaken =>
    rw [State.branchIf_of_not_holds h]
    exact ⟨(Frame.refl s).advance 3, .advance rfl rfl 3⟩

/-- Settles O52: taken, the top of the stack popped into `PC`; not taken, the move past the instruction. -/
theorem returnInstructions : Obligations.ReturnInstructions := by
  intro s top
  refine ⟨⟨_, rfl, rfl, rfl, Frame.ret s⟩, fun cc => ⟨_, exec_retIf cc s, (Frame.ret s).branchIf cc 1,
    fun h => ?taken, fun h => ?notTaken⟩⟩
  case taken =>
    rw [State.branchIf_of_holds h]
    exact ⟨rfl, rfl⟩
  case notTaken =>
    rw [State.branchIf_of_not_holds h]
    exact .advance rfl rfl 1

/-- Settles O53: an `RST` is a call with its own target, the address after itself as the return address (D14). -/
theorem restartInstructions : Obligations.RestartInstructions := fun s n =>
  ⟨_, exec_rst n s, call_effect s (s.after 1) _⟩

end Sys2Proof.Machine

/-! ### Ports and machine control (R181 to R189)

A port access is the register write of the instruction beside one entry of the port traffic. What one instruction may
do to the control elements is one statement about its `Effect`; a step adds the service of an interrupt and the cost,
which touch none of them. -/

namespace Sys2Proof.Machine

/-- The three bytes at the program counter always decode, and to the instruction of the fetch. -/
theorem State.decodeBytes_eq_fetch (s : State) (quit : Byte) :
    ∃ rest, decodeBytes quit [s.memRead s.pc, s.memRead (s.pc + 1), s.memRead (s.pc + 2)]
      = .ok (s.fetch quit, rest) := by
  simp only [decodeBytes, State.fetch, decode3, State.opcode, State.imm8]
  cases entryOf quit (s.memRead s.pc) <;> exact ⟨_, rfl⟩

/-! #### Who touches the control elements (R189) -/

/-- A control element in which `t` differs from `s` is one that the instruction `i` may change (R189). A value of this
structure gives the elements that do change; `rfl` closes the others. -/
structure ControlTouched (s : State) (i : Instr) (t : State) : Prop where
  ie : t.ie ≠ s.ie → i = .ei ∨ i = .di := by exact fun h => absurd rfl h
  halted : t.halted ≠ s.halted → i = .hlt := by exact fun h => absurd rfl h
  stopped : t.stopped ≠ s.stopped → i = .quit := by exact fun h => absurd rfl h
  portLog : t.portLog ≠ s.portLog → ∃ d8, i = .inp d8 ∨ i = .out d8 := by exact fun h => absurd rfl h
  portHandler : t.portHandler = s.portHandler := by rfl
  imageLen : t.imageLen = s.imageLen := by rfl

/-- What touches no control element may belong to any instruction. -/
theorem ControlKept.touched {s t : State} (h : ControlKept s t) (i : Instr) : ControlTouched s i t where
  ie hne := absurd h.ie hne
  halted hne := absurd h.halted hne
  stopped hne := absurd h.stopped hne
  portLog hne := absurd h.portLog hne
  portHandler := h.portHandler
  imageLen := h.imageLen

/-- Each effect of an instruction touches at most the one control element the instruction is for (R182 to R188). -/
theorem Effect.controlTouched {s t : State} {i : Instr} (h : Effect s i t) : ControlTouched s i t := by
  cases h with
  | plain h => exact h.controlKept.touched i
  | readPort d8 => exact { portLog := fun _ => ⟨d8, .inl rfl⟩ }
  | writePort d8 => exact { portLog := fun _ => ⟨d8, .inr rfl⟩ }
  | halt => exact { halted := fun _ => rfl }
  | quit => exact { stopped := fun _ => rfl }
  | enable => exact { ie := fun _ => .inl rfl }
  | disable => exact { ie := fun _ => .inr rfl }
  | noHandlerIn | noHandlerOut | unrecognized => exact {}

/-- The cost of an instruction goes to the cycle counter, which is none of the control elements. -/
theorem ControlTouched.charge {s t : State} {i : Instr} (h : ControlTouched s i t) (cost : Nat) :
    ControlTouched s i (charge cost t) := by
  rw [charge_eq]
  exact { h with }

/-- A step touches what the instruction at the program counter may touch, and nothing where it runs no instruction. -/
theorem StepEffect.controlTouched {p : Parameters} {s t : State} (h : StepEffect p s t) :
    ControlTouched s (s.fetch p.quitOpcode) t := by
  cases h with
  | stopped | halted | service => exact {}
  | instr _ _ _ _ t _ h => exact h.controlTouched.charge _

/-- Settles O57: the effect of the step, read at the instruction the bytes at `PC` decode to. -/
theorem whoTouchesControlState : Obligations.WhoTouchesControlState := by
  intro p s t hstep
  obtain ⟨-, heffect⟩ := stepEffect_of_next hstep
  obtain ⟨rest, hdecode⟩ := s.decodeBytes_eq_fetch p.quitOpcode
  obtain ⟨hie, hhalted, hstopped, hportLog, hhandler, himage⟩ := heffect.controlTouched
  exact ⟨_, rest, hdecode, hie, hhalted, hstopped, hportLog, hhandler, himage⟩

/-! #### `IN` and `OUT` (R181 to R183) -/

section
variable {s : State}

theorem exec_inp_of_handler {h : HandlerId} (hp : s.portHandler = some h) (d8 : Byte) :
    exec (.inp d8) s
      = .next (((s.logPort (.read d8 (s.portAnswer h d8))).setReg .a (s.portAnswer h d8)).advance 2) := by
  simp only [exec, execInp, hp, State.setReg]

theorem exec_out_of_handler {h : HandlerId} (hp : s.portHandler = some h) (d8 : Byte) :
    exec (.out d8) s = .next ((s.logPort (.write d8 s.a)).advance 2) := by
  simp only [exec, execOut, hp]

theorem exec_inp_of_no_handler (hp : s.portHandler = none) (d8 : Byte) :
    exec (.inp d8) s = .next (s.raise .missingPortHandler) := by
  simp only [exec, execInp, hp]

theorem exec_out_of_no_handler (hp : s.portHandler = none) (d8 : Byte) :
    exec (.out d8) s = .next (s.raise .missingPortHandler) := by
  simp only [exec, execOut, hp]

end

/-- What an instruction does beside its entry in the port traffic: registers, flags, cells, `PC` and `SP` do not see
that entry. -/
theorem Frame.besidePortLog {s t : State} {regs : List Reg} {flags : List Flag} {cells : List Word} {length : Nat}
    (h : Frame s { t with portLog := s.portLog } regs flags cells) (hfalls : FallsThrough s t length) :
    RegsKept s t regs ∧ FlagsKept s t flags ∧ CellsKept s t cells
      ∧ ControlKept s { t with portLog := s.portLog } ∧ FallsThrough s t length :=
  ⟨fun r hr => h.regs r hr, h.flags, fun x hx => h.cells x hx, h.control, hfalls⟩

/-- Settles O55: beside its entry in the port traffic `IN` is a write of the accumulator and `OUT` moves on. -/
theorem portInstructions : Obligations.PortInstructions := by
  intro s quit d8
  refine ⟨rfl, rfl, fun h hp => ⟨⟨_, exec_inp_of_handler hp d8, rfl, rfl, ?inp⟩,
    ⟨_, exec_out_of_handler hp d8, rfl, ?out⟩⟩,
    fun hp => ⟨exec_inp_of_no_handler hp d8, exec_out_of_no_handler hp d8⟩⟩
  case inp => exact Frame.besidePortLog ((Frame.setReg s .a _).advance 2) (.advance rfl rfl 2)
  case out => exact Frame.besidePortLog ((Frame.refl s).advance 2) (.advance rfl rfl 2)

/-! #### `NOP`, `HLT`, `EI`, `DI` and `QUIT` (R184 to R188) -/

/-- Settles O56: each meaning is the update of its one control element before the move past one byte. -/
theorem machineControlInstructions : Obligations.MachineControlInstructions := fun _ =>
  ⟨rfl, rfl, rfl, rfl, rfl⟩

end Sys2Proof.Machine

/-! ### The invariant (R200 to R208, R230 to R235)

An instruction runs only while no interrupt is latched, so the clause on the latch is at stake only where a host move
latches one. The other clauses speak of the memory, the flags byte and the image length alone. -/

namespace Sys2Proof.Machine

/-! #### Every step keeps the invariant -/

/-- While no interrupt is latched the invariant speaks of the memory, the fixed flags and the image length. -/
theorem State.Inv.of_latch_none {s t : State} (hs : s.Inv) (hmem : t.mem = s.mem) (hf : t.f = s.f)
    (himage : t.imageLen = s.imageLen) (hlatch : t.latch = none) : t.Inv where
  memory := hmem ▸ hs.memory
  fixedFlags := hf ▸ hs.fixedFlags
  latch _ hx := nomatch hlatch.symm.trans hx
  image := himage ▸ hs.image

theorem Plain.inv {s t : State} (h : Plain s t) (hs : s.Inv) : t.Inv where
  memory := h.wf hs.memory
  fixedFlags := h.fixed.elim (·.trans hs.fixedFlags) id
  latch x hx := by
    rw [h.ie, h.halted]
    exact hs.latch x (h.latch.symm.trans hx)
  image := h.imageLen ▸ hs.image

/-- Every effect of an instruction keeps the invariant while no interrupt is latched: `EI` and `HLT` would break it
otherwise. -/
theorem Effect.inv {s t : State} {i : Instr} (h : Effect s i t) (hl : s.latch = none) (hs : s.Inv) : t.Inv := by
  cases h with
  | plain h => exact h.inv hs
  | readPort | writePort | noHandlerIn | noHandlerOut | halt | quit | enable | disable | unrecognized =>
    exact hs.of_latch_none rfl rfl rfl hl

theorem State.Inv.charge {t : State} (h : t.Inv) (cost : Nat) : (charge cost t).Inv := by
  rw [charge_eq]
  exact { h with }

theorem StepEffect.inv {p : Parameters} {s t : State} (h : StepEffect p s t) (hs : s.Inv) : t.Inv := by
  cases h with
  | stopped | halted => exact hs
  | service => exact hs.of_latch_none rfl rfl rfl rfl
  | instr _ _ _ hl t _ h => exact (h.inv hl hs).charge _

/-- Settles O9: by the effects a step can have. -/
theorem stepKeepsInvariant : Obligations.StepKeepsInvariant := fun _ _ _ hs hstep =>
  (stepEffect_of_next hstep).2.inv hs

/-! #### What a host move can do -/

/-- What a host move that has a next state did (R203 to R205, R230 to R235). -/
inductive MoveEffect (p : Parameters) (s : State) : HostMove → State → Prop
  | reset : MoveEffect p s .reset (State.resetWith p.ieReset)
  | load (image : List Byte) (h : image.length ≤ 0x10000) :
      MoveEffect p s (.load image) { s with mem := s.mem.copyIn 0 image, pc := 0x0000, imageLen := image.length }
  | accepted (v : Byte) (hv : isRstVector v = true) (hie : s.ie = true) :
      MoveEffect p s (.intReq v) (s.acceptInterrupt (vectorTarget v))
  | masked (v : Byte) (hv : isRstVector v = true) (hie : s.ie = false) : MoveEffect p s (.intReq v) s
  | attachHandler (h : HandlerId) : MoveEffect p s (.attachHandler h) (attachHandler h s)
  | detachHandler : MoveEffect p s .detachHandler (detachHandler s)
  | readCycles : MoveEffect p s .readCycles s
  | resetCycles : MoveEffect p s .resetCycles (resetCycles s)

theorem intReq_of_enabled {s : State} {v : Byte} (hv : isRstVector v = true) (hie : s.ie = true) :
    intReq v s = .next (s.acceptInterrupt (vectorTarget v)) := by
  simp only [intReq, hv, hie, if_true]

theorem intReq_of_masked {s : State} {v : Byte} (hv : isRstVector v = true) (hie : s.ie = false) :
    intReq v s = .next s := by
  simp [intReq, hv, hie]

theorem intReq_of_not_rst {v : Byte} (hv : isRstVector v = false) (s : State) :
    intReq v s = .refused (.notRstVector v) := by
  simp [intReq, hv]

theorem load_of_fits {image : List Byte} (h : image.length ≤ 0x10000) (s : State) :
    load image s = .next { s with mem := s.mem.copyIn 0 image, pc := 0x0000, imageLen := image.length } :=
  if_pos h

theorem load_of_too_long {image : List Byte} (h : ¬image.length ≤ 0x10000) (s : State) :
    load image s = .refused (.imageTooLong image.length) :=
  if_neg h

theorem moveEffect_of_next {p : Parameters} {m : HostMove} {s t : State} (h : hostMoveWith p m s = .next t) :
    MoveEffect p s m t := by
  cases m <;> rw [hostMoveWith] at h
  case reset => cases h; exact .reset
  case load image =>
    by_cases hfits : image.length ≤ 0x10000
    · cases (load_of_fits hfits s).symm.trans h
      exact .load image hfits
    · cases (load_of_too_long hfits s).symm.trans h
  case intReq v =>
    cases hv : isRstVector v with
    | false => cases (intReq_of_not_rst hv s).symm.trans h
    | true =>
      cases hie : s.ie with
      | true => cases (intReq_of_enabled hv hie).symm.trans h; exact .accepted v hv hie
      | false => cases (intReq_of_masked hv hie).symm.trans h; exact .masked v hv hie
  case attachHandler k => cases h; exact .attachHandler k
  case detachHandler => cases h; exact .detachHandler
  case readCycles => cases h; exact .readCycles
  case resetCycles => cases h; exact .resetCycles

/-! #### Every host move keeps the invariant -/

theorem State.inv_resetWith (ieReset : Bool) : (State.resetWith ieReset).Inv where
  memory := rfl
  fixedFlags := show (0x02 : Byte) &&& 0x2A = 0x02 by decide
  latch := nofun
  image := Nat.zero_le _

/-- Settles O8: the reset state, whatever the value of `IE_RESET`. -/
theorem resetMeetsInvariant : Obligations.ResetMeetsInvariant := State.inv_resetWith Config.ieReset

/-- The target of a vector byte is one of the eight vectors (R203). -/
theorem vectorTarget_and (v : Byte) : vectorTarget v &&& 0x0038 = vectorTarget v := by
  have hmask : (0x0038 : Word) = (0x38 : Byte).setWidth 16 := rfl
  rw [vectorTarget, hmask, ← BitVec.setWidth_and, BitVec.and_assoc, BitVec.and_self]

/-- Acceptance latches a vector, with interrupts disabled and the halt left (R205, R206). -/
theorem State.Inv.acceptInterrupt {s : State} (hs : s.Inv) (v : Byte) :
    (s.acceptInterrupt (vectorTarget v)).Inv where
  memory := State.wf_push16 hs.memory s.pc
  fixedFlags := hs.fixedFlags
  latch x hx := by
    obtain rfl : vectorTarget v = x := Option.some.inj hx
    exact ⟨vectorTarget_and v, rfl, rfl⟩
  image := hs.image

theorem MoveEffect.inv {p : Parameters} {m : HostMove} {s t : State} (h : MoveEffect p s m t) (hs : s.Inv) :
    t.Inv := by
  cases h with
  | reset => exact State.inv_resetWith p.ieReset
  | load image h =>
    exact { hs with memory := Memory.wf_copyIn hs.memory image (by omega), image := h }
  | accepted v => exact hs.acceptInterrupt v
  | masked | readCycles => exact hs
  | attachHandler | detachHandler | resetCycles => exact { hs with }

/-- Settles O10: by the effects a host move can have; what each move does is its row of `hostMoveWith`. -/
theorem hostMovesKeepInvariant : Obligations.HostMovesKeepInvariant :=
  ⟨fun _ _ _ _ hs hmove => (moveEffect_of_next hmove).inv hs,
    fun _ _ => ⟨rfl, fun _ => rfl, fun _ => rfl, fun _ => rfl, rfl, rfl, rfl, rfl⟩, fun _ _ => rfl, rfl⟩

end Sys2Proof.Machine

/-! ### Faults (R210 to R213)

An effect that latches a fault is `State.raise`: the precise fault and the closed list are two readings of one
statement about the effects of a step. -/

namespace Sys2Proof.Machine

/-- A byte decoded as unrecognised is carried as it was fetched, whatever the byte of `QUIT` (R210). -/
theorem eq_of_decode3_eq_unrecognized {quit op b1 b2 x : Byte} (h : decode3 quit op b1 b2 = .unrecognized x) :
    x = op := by
  obtain ⟨operands, hreads⟩ := exists_reads_decode3 quit op b1 b2
  rw [h, entryOf] at hreads
  split at hreads
  · cases hreads
  · obtain ⟨hencode, -⟩ := encode_of_mapEntry_reads (quit := quit) hreads
    exact (List.cons.inj hencode).1

theorem exec_unrecognized (op : Byte) (s : State) :
    exec (.unrecognized op) s = .next (s.raise (.unrecognizedOpcode op)) := rfl

/-- When the instruction `i` raises the fault `r` in the state `s` (R210, R211). -/
def FaultCause (s : State) (i : Instr) : Fault → Prop
  | .unrecognizedOpcode op => i = .unrecognized op
  | .missingPortHandler => s.portHandler = none ∧ ∃ d8, i = .inp d8 ∨ i = .out d8

/-- An effect that latches a fault is the raising of that fault, by an instruction that has cause to. -/
theorem Effect.of_fault {s t : State} {i : Instr} {r : Fault} (h : Effect s i t) (hs : s.fault = none)
    (ht : t.fault = some r) : t = s.raise r ∧ FaultCause s i r := by
  have hne : t.fault ≠ s.fault := by simp [hs, ht]
  cases h with
  | plain h => exact absurd h.fault hne
  | readPort | writePort | halt | quit | enable | disable => exact absurd rfl hne
  | noHandlerIn d8 hp =>
    cases ht
    exact ⟨rfl, hp, d8, .inl rfl⟩
  | noHandlerOut d8 hp =>
    cases ht
    exact ⟨rfl, hp, d8, .inr rfl⟩
  | unrecognized op =>
    cases ht
    exact ⟨rfl, rfl⟩

@[simp] theorem charge_fault (cost : Nat) (t : State) : (charge cost t).fault = t.fault := by rw [charge_eq]

/-- A faulting instruction is charged nothing (D26). -/
theorem charge_of_fault {t : State} {r : Fault} (h : t.fault = some r) (cost : Nat) : charge cost t = t := by
  simp [charge, h]

theorem StepEffect.of_fault {p : Parameters} {s t : State} {r : Fault} (h : StepEffect p s t)
    (ht : t.fault = some r) : t = s.raise r ∧ FaultCause s (s.fetch p.quitOpcode) r := by
  cases h with
  | stopped hf | halted hf | service hf => exact nomatch hf.symm.trans ht
  | instr hf _ _ _ u _ h =>
    have hu : u.fault = some r := (charge_fault _ u).symm.trans ht
    rw [charge_of_fault hu]
    exact h.of_fault hf hu

/-- Settles O22: the step raised the fault. -/
theorem faultChangesNothingElse : Obligations.FaultChangesNothingElse := by
  intro p s t _ hstep ht
  obtain ⟨r, hr⟩ := Option.ne_none_iff_exists'.1 ht
  obtain ⟨-, heffect⟩ := stepEffect_of_next hstep
  obtain ⟨rfl, -⟩ := heffect.of_fault hr
  rfl

/-- Settles O23: the step raised the fault with cause, and an unrecognised byte is the byte fetched. -/
theorem faultListIsClosed : Obligations.FaultListIsClosed := by
  intro p s hs
  obtain ⟨t, hstep, heffect⟩ := stepWith_effect p hs
  obtain ⟨rest, hdecode⟩ := s.decodeBytes_eq_fetch p.quitOpcode
  refine ⟨t, _, rest, hstep, hdecode, fun r hr => ?cause⟩
  obtain ⟨-, hcause⟩ := heffect.of_fault hr
  cases r with
  | unrecognizedOpcode op =>
    have hop : op = s.memRead s.pc := eq_of_decode3_eq_unrecognized hcause
    exact .inl ⟨congrArg _ hop, hop ▸ hcause⟩
  | missingPortHandler => exact .inr ⟨rfl, hcause⟩

/-! #### The step of a running state (R200) -/

section
variable {p : Parameters} {s t : State} {i : Instr}

/-- A running state executes the instruction at the program counter and is charged its cost. -/
theorem stepWith_of_exec (hrun : s.Running) (hfetch : s.fetch p.quitOpcode = i) (hexec : exec i s = .next t) :
    stepWith p s = .next (charge (cycleCost p s.opcode s) t) := by
  rw [stepWith_of_running p hrun, runInstr, hfetch, hexec]

/-- An instruction that raises a fault is the whole step. -/
theorem stepWith_of_raise {r : Fault} (hrun : s.Running) (hfetch : s.fetch p.quitOpcode = i)
    (hexec : exec i s = .next (s.raise r)) : stepWith p s = .next (s.raise r) := by
  rw [stepWith_of_exec hrun hfetch hexec, charge_of_fault (s.raise_fault r)]

end

theorem charge_eq_ite (cost : Nat) (t : State) :
    charge cost t = if t.fault = none then { t with cyc := t.cyc + cost } else t := by
  cases h : t.fault <;> simp [charge, h]

/-- Settles O12: the bytes at `PC` decode to the instruction of the fetch. -/
theorem stepRunsDecodedInstruction : Obligations.StepRunsDecodedInstruction := by
  refine ⟨fun p s t i rest hrun hdecode hexec => ?runs, fun _ => rfl⟩
  case runs => rw [stepWith_of_exec hrun (State.fetch_of_decodeBytes hdecode) hexec, charge_eq_ite, State.opcode]

/-- Settles O13: one equation of the step for each test. -/
theorem testsBeforeFetch : Obligations.TestsBeforeFetch := fun p _ =>
  ⟨fun _ hf => stepWith_fault p hf, fun hf hs => stepWith_of_stopped p hf hs,
    fun hf _ hh => stepWith_of_halted p hf hh, fun _ hf hs hh hl => stepWith_of_latched p hf hs hh hl⟩

/-- Settles O20: the eleven bytes are the unrecognised ones at the working `QUIT_OPCODE`, each decoded as itself. -/
theorem unrecognisedByteFaults : Obligations.UnrecognisedByteFaults := by
  refine ⟨fun s hrun hop => ?step, fun s op => exec_unrecognized op s⟩
  case step =>
    have hfetch : s.fetch workingParameters.quitOpcode = .unrecognized (s.memRead s.pc) :=
      (unrecognisedBytesAreTheFreeOnes _ _ _ _ rfl).1.2 hop
    have hstep := stepWith_of_raise hrun hfetch (exec_unrecognized (s.memRead s.pc) s)
    exact ⟨_, hstep, s.raise_fault _⟩

/-- Settles O21: both port instructions raise the fault where no handler is attached. -/
theorem missingHandlerFaults : Obligations.MissingHandlerFaults := by
  intro p s i rest hrun hp hdecode hport
  have hexec : exec i s = .next (s.raise .missingPortHandler) := by
    obtain ⟨d8, rfl | rfl⟩ := hport
    · exact exec_inp_of_no_handler hp d8
    · exact exec_out_of_no_handler hp d8
  exact ⟨_, stepWith_of_raise hrun (State.fetch_of_decodeBytes hdecode) hexec, rfl⟩

/-- Settles O24: no host move but reset writes the fault latch. -/
theorem faultIsFatal : Obligations.FaultIsFatal := by
  intro s r hr
  refine ⟨stepWith_fault _ hr, fun m t hm hmove => ?kept, rfl⟩
  case kept =>
    cases moveEffect_of_next hmove with
    | reset => exact absurd rfl hm
    | load | accepted | masked | attachHandler | detachHandler | readCycles | resetCycles => exact hr

end Sys2Proof.Machine

/-! ### Interrupts (R203 to R209)

A request is one of `intReq_of_enabled`, `intReq_of_masked` and `intReq_of_not_rst`. -/

namespace Sys2Proof.Machine

theorem isRstVector_iff {v : Byte} : isRstVector v = true ↔ v &&& 0xC7 = 0xC7 := beq_iff_eq

/-- The byte of `RST n` (R167). -/
def rstByte (n : Fin 8) : Byte := BitVec.ofNat 8 (0xC7 + 8 * n.val)

theorem isRstVector_rstByte : ∀ n, isRstVector (rstByte n) = true := by decide

/-- A vector byte is the byte of an `RST n`, with `n` in its bits 3 to 5 (R203). -/
theorem eq_rstByte_of_isRstVector : ∀ v : Byte, isRstVector v = true → v = rstByte (Fin.ofNat 8 (v.toNat / 8)) := by
  decide

theorem vectorTarget_rstByte : ∀ n, vectorTarget (rstByte n) = BitVec.ofNat 16 (8 * n.val) := by decide

/-- Acceptance stores the interrupted `PC` (R205). -/
theorem PushEffect.acceptInterrupt (s : State) (target : Word) : PushEffect s (s.acceptInterrupt target) s.pc :=
  .push16 s s.pc

/-- Settles O14: acceptance is a push of `PC` beside three control elements. -/
theorem interruptAcceptance : Obligations.InterruptAcceptance := by
  intro s n hie
  refine ⟨_, intReq_of_enabled (isRstVector_rstByte n) hie, .acceptInterrupt s _, ?latch, rfl, rfl,
    s.acceptInterrupt_pc _, fun r _ => s.reg_acceptInterrupt _ r, .of_f_eq (s.acceptInterrupt_f _),
    s.acceptInterrupt_cyc _, s.acceptInterrupt_stopped _, s.acceptInterrupt_fault _, s.acceptInterrupt_portHandler _,
    s.acceptInterrupt_imageLen _, s.acceptInterrupt_portLog _⟩
  case latch => exact (s.acceptInterrupt_latch _).trans (congrArg some (vectorTarget_rstByte n))

/-- Settles O15: a masked request changes nothing, and `EI` does not write the latch. -/
theorem maskedRequestIsLost : Obligations.MaskedRequestIsLost := fun _ _ hie hv =>
  ⟨intReq_of_masked (isRstVector_iff.2 hv) hie, _, rfl, rfl, rfl⟩

/-- Settles O16: the vector is looked at before `IE`. -/
theorem nonRstVectorIsRefused : Obligations.NonRstVectorIsRefused := by
  intro s v hv
  have hrst : isRstVector v = false := Bool.eq_false_iff.2 fun h => hv _ (eq_rstByte_of_isRstVector v h)
  exact intReq_of_not_rst hrst s

/-- After a request that is answered interrupts are disabled: by its acceptance, or because it was masked. -/
theorem ie_eq_false_of_intReq {s t : State} {v : Byte} (h : intReq v s = .next t) : t.ie = false := by
  cases moveEffect_of_next (p := workingParameters) (m := .intReq v) h with
  | accepted => rfl
  | masked _ _ hie => exact hie

/-- Settles O17: after the first request interrupts are disabled, so the second is masked. -/
theorem secondRequestChangesNothing : Obligations.SecondRequestChangesNothing := fun _ _ _ _ _ hreq hw =>
  intReq_of_masked (isRstVector_iff.2 hw) (ie_eq_false_of_intReq hreq)

theorem exec_ret (s : State) : exec .ret s = .next s.ret := rfl

/-- Settles O18: the `RET` finds the `PC` that acceptance pushed, for the service leaves the stack alone. -/
theorem interruptedProgramResumes : Obligations.InterruptedProgramResumes := by
  intro s v hrun hie hv
  obtain ⟨hfault, hstopped, -, -⟩ := hrun
  have haccept := intReq_of_enabled (isRstVector_iff.2 hv) hie
  have hservice := stepWith_of_latched workingParameters (s := s.acceptInterrupt (vectorTarget v)) hfault hstopped
    rfl rfl
  refine ⟨_, _, _, haccept, hservice, rfl, rfl, exec_ret _, ?pc, spAdd_down_up s.sp, fun r _ => ?regs, ?flags, rfl⟩
  case pc => exact (State.stackTop_congr rfl rfl).trans (s.stackTop_push16 s.pc)
  case flags => rw [State.ret_f, State.serviceInterrupt_f, State.acceptInterrupt_f]
  case regs => rw [State.reg_ret, State.reg_serviceInterrupt, State.reg_acceptInterrupt]

end Sys2Proof.Machine

/-! ### Reset, loading and the run-mode loop (R230 to R238, R245)

The loop comes, within the steps allowed, to a state where its test fails, or it uses them all up; and a run of
`runModeWith` goes through every state the loop reaches. The two together say how a run ends. -/

namespace Sys2Proof.Machine

/-! #### The run-mode loop (R237, R238) -/

section
variable {p : Parameters} {n fuel : Nat} {s t u : State}

/-- In no steps the loop comes to the state it starts in, and to no other. -/
theorem loopReaches_zero : LoopReaches p 0 s t ↔ s = t := by
  constructor
  · rintro ⟨hrun, -⟩
    exact Host.Outcome.next.inj hrun
  · rintro rfl
    exact ⟨rfl, fun m hm => absurd hm m.not_lt_zero⟩

theorem LoopReaches.test_of_succ (h : LoopReaches p (n + 1) s t) : LoopTest s := by
  obtain ⟨-, htest⟩ := h
  obtain ⟨_, ⟨⟩, hs⟩ := htest 0 n.succ_pos
  exact hs

/-- Where the test holds the loop makes its first step, and then the rest. -/
theorem loopReaches_succ (hs : LoopTest s) (hstep : stepWith p s = .next u) :
    LoopReaches p (n + 1) s t ↔ LoopReaches p n u t := by
  have hfirst : ∃ v : State, (coreWith p).run 0 s = .next v ∧ LoopTest v := ⟨s, rfl, hs⟩
  simp only [LoopReaches, Nat.forall_lt_succ_left, coreWith_run_succ hstep]
  exact and_congr_right fun _ => and_iff_right hfirst

/-- A run goes through what the loop reaches, with the steps left over still to make. -/
theorem runModeWith_of_loopReaches (h : LoopReaches p n s t) (left : Nat) :
    runModeWith p (left + n) s = runModeWith p left t := by
  induction n generalizing s with
  | zero => rw [loopReaches_zero.1 h, Nat.add_zero]
  | succ n ih =>
    obtain ⟨u, hstep, hrun⟩ := runModeWith_succ_of_test p (left + n) h.test_of_succ
    exact hrun.trans (ih ((loopReaches_succ h.test_of_succ hstep).1 h))

/-- The run ends where the loop's test fails. -/
theorem runModeWith_ended_of_loopReaches (hn : n ≤ fuel) (h : LoopReaches p n s t) (ht : ¬LoopTest t) :
    runModeWith p fuel s = .ended t := by
  obtain ⟨left, rfl⟩ := Nat.exists_eq_add_of_le' hn
  rw [runModeWith_of_loopReaches h, runModeWith_of_not_test p left ht]

/-- The run is unfinished where the steps are used up and the test still holds. -/
theorem runModeWith_unfinished_of_loopReaches (h : LoopReaches p fuel s t) (ht : LoopTest t) :
    runModeWith p fuel s = .unfinished t := by
  have hrun := runModeWith_of_loopReaches h 0
  rwa [Nat.zero_add, runModeWith_zero_of_test p ht] at hrun

/-- The loop comes to a state where its test fails, or uses up the steps allowed. -/
theorem exists_loopReaches (p : Parameters) (fuel : Nat) (s : State) :
    (∃ t, ∃ n ≤ fuel, LoopReaches p n s t ∧ ¬LoopTest t) ∨ ∃ t, LoopReaches p fuel s t ∧ LoopTest t := by
  induction fuel generalizing s with
  | zero =>
    by_cases hs : LoopTest s
    · exact .inr ⟨s, loopReaches_zero.2 rfl, hs⟩
    · exact .inl ⟨s, 0, Nat.le_refl 0, loopReaches_zero.2 rfl, hs⟩
  | succ fuel ih =>
    by_cases hs : LoopTest s
    · obtain ⟨u, hstep, -⟩ := runModeWith_succ_of_test p fuel hs
      obtain ⟨t, n, hn, hreach, ht⟩ | ⟨t, hreach, ht⟩ := ih u
      · exact .inl ⟨t, n + 1, Nat.succ_le_succ hn, (loopReaches_succ hs hstep).2 hreach, ht⟩
      · exact .inr ⟨t, (loopReaches_succ hs hstep).2 hreach, ht⟩
    · exact .inl ⟨s, 0, Nat.zero_le _, loopReaches_zero.2 rfl, hs⟩

theorem runModeWith_eq_ended_iff :
    runModeWith p fuel s = .ended t ↔ ∃ n ≤ fuel, LoopReaches p n s t ∧ ¬LoopTest t := by
  refine ⟨fun hrun => ?reached, fun ⟨_, hn, hreach, ht⟩ => runModeWith_ended_of_loopReaches hn hreach ht⟩
  case reached =>
    obtain ⟨v, n, hn, hreach, hv⟩ | ⟨v, hreach, hv⟩ := exists_loopReaches p fuel s
    · cases (runModeWith_ended_of_loopReaches hn hreach hv).symm.trans hrun
      exact ⟨n, hn, hreach, hv⟩
    · cases (runModeWith_unfinished_of_loopReaches hreach hv).symm.trans hrun

theorem runModeWith_eq_unfinished_iff :
    runModeWith p fuel s = .unfinished t ↔ LoopReaches p fuel s t ∧ LoopTest t := by
  refine ⟨fun hrun => ?reached, fun ⟨hreach, ht⟩ => runModeWith_unfinished_of_loopReaches hreach ht⟩
  case reached =>
    obtain ⟨v, n, hn, hreach, hv⟩ | ⟨v, hreach, hv⟩ := exists_loopReaches p fuel s
    · cases (runModeWith_ended_of_loopReaches hn hreach hv).symm.trans hrun
    · cases (runModeWith_unfinished_of_loopReaches hreach hv).symm.trans hrun
      exact ⟨hreach, hv⟩

theorem invokeWith_of_ended (h : runModeWith p fuel s = .ended t) :
    invokeWith p false fuel s = .returned (.next t) := by
  simp [invokeWith, h]

theorem invokeWith_of_unfinished (h : runModeWith p fuel s = .unfinished t) :
    invokeWith p false fuel s = .unfinished t := by
  simp [invokeWith, h]

theorem invokeWith_stepMode (p : Parameters) (fuel : Nat) (s : State) :
    invokeWith p true fuel s = .returned (stepWith p s) := rfl

end

/-- Settles O60: how a run ends, what the two kinds of invocation return, and the working parameters put in. -/
theorem runModeIsTheLoop : Obligations.RunModeIsTheLoop :=
  ⟨fun p fuel s _ => ⟨runModeWith_eq_ended_iff, runModeWith_eq_unfinished_iff, invokeWith_of_ended,
      invokeWith_of_unfinished, invokeWith_stepMode p fuel s⟩,
    fun _ _ => rfl, fun _ _ _ => rfl, rfl⟩

/-! #### Reset and loading (R230 to R232) -/

/-- Every register is 0 after reset (R230). -/
@[simp] theorem State.reg_resetWith (ieReset : Bool) (r : Reg) : (State.resetWith ieReset).reg r = 0x00 := by
  cases r <;> rfl

/-- Settles O7: the registers and the cells each by its rule; the other fields are written out in `State.resetWith`. -/
theorem resetValues : Obligations.ResetValues := fun ie =>
  ⟨State.reg_resetWith ie, rfl, rfl, rfl, State.memRead_resetWith ie, rfl, rfl, rfl, rfl, rfl, rfl, rfl, rfl, rfl, rfl⟩

/-- A loaded image is read back from address 0 on, and the cells behind it are as before (R232). -/
theorem memRead_of_copyIn {s t : State} {image : List Byte} (h : t.mem = s.mem.copyIn 0 image) (a : Word) :
    t.memRead a = (image[a.toNat]?).getD (s.memRead a) := by
  rw [State.memRead, h, Memory.read_copyIn, if_neg (Nat.not_lt_zero _), Nat.sub_zero, State.memRead]

/-- Settles O59: an image is loaded or refused by its length. -/
theorem loadProgram : Obligations.LoadProgram := fun s _ =>
  ⟨fun hfits => ⟨_, load_of_fits hfits s, memRead_of_copyIn rfl, rfl⟩,
    fun hlong => load_of_too_long (Nat.not_le.2 hlong) s⟩

/-! #### A halt that only reset ends (R245) -/

theorem exec_hlt (s : State) : exec .hlt s = .next (State.advance { s with halted := true } 1) := rfl

/-- With interrupts disabled no host move but reset ends a halt or enables interrupts (R204, R245). -/
theorem MoveEffect.halted_masked {p : Parameters} {m : HostMove} {s t : State} (h : MoveEffect p s m t)
    (hm : m ≠ .reset) (hh : s.halted = true) (hie : s.ie = false) : t.halted = true ∧ t.ie = false := by
  cases h with
  | reset => exact absurd rfl hm
  | accepted _ _ henabled => exact nomatch hie.symm.trans henabled
  | load | masked | attachHandler | detachHandler | readCycles | resetCycles => exact ⟨hh, hie⟩

/-- Settles O19: a halted step changes nothing, a request is masked, and no other host move touches the halt. -/
theorem haltedWithInterruptsDisabled : Obligations.HaltedWithInterruptsDisabled := by
  refine ⟨fun s hie => ⟨_, exec_hlt s, rfl, hie, rfl⟩, fun s hf hh hie => ⟨?step, ?request, ?move⟩⟩
  case step => exact stepWith_of_halted workingParameters hf hh
  case request => exact fun v hv => intReq_of_masked (isRstVector_iff.2 hv) hie
  case move => exact fun m t hm hmove => (moveEffect_of_next hmove).halted_masked hm hh hie

end Sys2Proof.Machine
